-- ==== Sys2Proof/Word.lean ====
section
/-!
DEFINITION. Word.lean: the words of the block's two wire interfaces (bytes of the station port, sets of
stations and of trigger lines as record layouts give them) and the two operand records that commands carry.
-/
namespace Sys2Proof

/-- One byte of the station port (spec/10 R202). -/
abbrev Byte := BitVec 8

/-- A set of station numbers: bit j stands for station j (spec/10 R201). -/
abbrev StationSet := BitVec 32

/-- A set of trigger lines: bit l stands for line l (spec/10 R201). -/
abbrev LineSet := BitVec 4

/-- The strap readings of one start (spec/09 R193). -/
structure Straps where
  /-- STN4 to STN0: the station number k. -/
  stn : BitVec 5
  /-- WIN1, WIN0: names the window count W. -/
  win : BitVec 2
  /-- EPL1, EPL0: names the epoch length E. -/
  epl : BitVec 2
  /-- AUTO high: join after the start. -/
  auto : Bool
  deriving DecidableEq, Repr

/-- What a start samples from the pins: the straps and the initial HOLD and CAP levels (spec/09 R195). -/
structure Pins where
  straps : Straps
  hold : Bool
  cap0 : Bool
  cap1 : Bool
  deriving DecidableEq, Repr

/-- The 14 parameter bytes that SCHEDULE and PROPOSE share, as sent (spec/10, 10.5 Parameters). -/
structure TriggerParams where
  targetEpoch : BitVec 32
  targetPosition : BitVec 24
  width : BitVec 16
  lines : Byte
  period : BitVec 16
  repeats : BitVec 16
  deriving DecidableEq, Repr

end Sys2Proof
end

