-- ==== Sys2Proof/Syntax.lean ====
section
/-!
DEFINITION. Syntax.lean: the commands and events of the block, one constructor per row of
spec/opcode_table.json. Operands are the parameter bytes of spec/10 (10.5) as sent, or what the outside
decides in the event.
-/
namespace Sys2Proof

/-- One row of spec/opcode_table.json each, in the table's order. -/
inductive Instr where
  /-- READ_STATUS (R183). -/
  | readStatus
  /-- READ_CONFIG (R184). -/
  | readConfig
  /-- READ_TIME (R41). -/
  | readTime
  /-- READ_ENTRY(handle) (R136). -/
  | readEntry (handle : Byte)
  /-- READ_SCHEDULE(position) (R137). -/
  | readSchedule (position : Byte)
  /-- READ_PEER(station) (R62). -/
  | readPeer (station : Byte)
  /-- READ_LOG(age) (R88). -/
  | readLog (age : Byte)
  /-- POP_EVENT (R174). -/
  | popEvent
  /-- CONFIGURE(parameter identifier, value) (R186). -/
  | configure (ident : Byte) (value : BitVec 16)
  /-- SET_ALERT_MASK(mask, correction enables) (R190). -/
  | setAlertMask (mask enables : Byte)
  /-- CLEAR(alert flags, correction flags) (R192). -/
  | clear (alertFlags corrFlags : Byte)
  /-- JOIN (R94). -/
  | join
  /-- LEAVE with mode byte other than FAST: 1 is SECURE (R108), any other names nothing (R181). -/
  | leaveSecure (mode : Byte)
  /-- LEAVE with mode FAST (R110). -/
  | leaveFast
  /-- RESTART, and the pin levels its start samples (R197). -/
  | restart (pins : Pins)
  /-- SCHEDULE(target, width, lines, period, repeats, options) (R121). -/
  | schedule (params : TriggerParams) (options : Byte)
  /-- PROPOSE(target, width, lines, period, repeats) (R142). -/
  | propose (params : TriggerParams)
  /-- CANCEL(handle) (R133). -/
  | cancel (handle : Byte)
  /-- RELEASE(station) (R61). -/
  | release (station : Byte)
  /-- A response transaction that clocks `count` bytes after the code byte, a last partial one counted (R179). -/
  | response (count : Nat)
  /-- A command transaction whose code names no command (R181). -/
  | unknownCommand (code : Byte)
  /-- CSn rises when only `count` whole bytes of an incomplete transaction are in (R178). -/
  | transactionDiscarded (count : Nat)
  /-- The supplies rise (R195). -/
  | powerOn
  /-- RESETn falls (R195, R196). -/
  | resetnFall
  /-- A power-on or RESETn start ends with these pin levels; `csnLow` is CSn at that moment (R195, R196). -/
  | startEnd (pins : Pins) (csnLow : Bool)
  /-- HOLD goes from low to high (R113). -/
  | holdAssertion
  /-- HOLD goes from high to low (R114). -/
  | holdRelease
  /-- The level of CAP0 or CAP1 changes (R167). -/
  | capEdge (input : Fin 2)
  /-- A received frame ends: the bits read after the start-of-frame, and whether it ended in error (R8, R15). The row
  stands at the end of the last bit time read (R199; log 27). -/
  | frameEnd (bits : List Bool) (inError : Bool)
  /-- 254 bit times pass after the timing mark without the line going idle (R8). -/
  | receiveTimeout
  /-- Readback finds the line dominant in a recessive half of the own beacon (R23). -/
  | overdrive
  /-- The own beacon is driven to its last CRC half-bit (R24). -/
  | beaconSentWhole
  /-- T reaches the own send instant (R21). -/
  | ownSendInstant
  /-- T reaches a peer window close (R58). -/
  | windowClose
  /-- T reaches an epoch close (R69). -/
  | epochClose
  /-- T reaches a slew point (R32). -/
  | slewPoint
  /-- T reaches the next fire time of the ARMED entry in this slot (R123). -/
  | triggerFire (handle : Fin 16)
  /-- T reaches the deadline of the PENDING entry in this slot (R156). -/
  | sharedDeadline (handle : Fin 16)
  /-- T reaches the listen deadline (R99). -/
  | listenDeadline
  /-- T reaches the expiry of a declined record (R161). -/
  | declinedExpiry
  /-- The remaining active time of this line has reached 0 (R124). -/
  | pulseEnd (line : Fin 4)
  /-- From idle, a dominant run of at least 3 bit times; the row stands at its leading edge (R8, R10; log 25). -/
  | startOfFrame
  /-- T runs on within a REFCLK period: to its end, or for at most `stop` ns of T (R28). -/
  | referencePeriod (stop : Option Nat)
  deriving DecidableEq, Repr

end Sys2Proof
end

