-- ==== Sys2Proof/WellFormed.lean ====
section
/-!
DEFINITION. WellFormed.lean: the checks on a command's operands that the operand types do not make.
-/
namespace Sys2Proof

/-- The code bytes that spec/10 (10.5) gives a meaning, RESPONSE among them. -/
def knownCodes : List Byte :=
  [0x00, 0x10, 0x11, 0x12, 0x13, 0x14, 0x15, 0x16, 0x17, 0x20, 0x21, 0x22, 0x30, 0x31, 0x32, 0x40, 0x41,
   0x42, 0x50]

/-- A command or event that the outside can send.
* LEAVE_SECURE carries every mode byte but the one that is the row LEAVE_FAST (10.5).
* UNKNOWN_COMMAND carries a code that 10.5 does not list.
* An incomplete transaction has fewer than the 16 bytes of the longest command (10.5, SCHEDULE).
* A frame ends before 254 bit times after its mark, 4 of them its start-of-frame (R8).
* A stop within a reference period lies within the at most 41 ns that T can run in it (R28). -/
def wellFormed : Instr → Bool
  | .leaveSecure mode => mode != 2
  | .unknownCommand code => !(knownCodes.contains code)
  | .transactionDiscarded count => decide (count ≤ 15)
  | .frameEnd bits _ => decide (bits.length ≤ 250)
  | .referencePeriod (some stop) => decide (1 ≤ stop ∧ stop ≤ 41)
  | .referencePeriod none => true
  | .readStatus | .readConfig | .readTime | .readEntry _ | .readSchedule _ | .readPeer _ | .readLog _
  | .popEvent | .configure _ _ | .setAlertMask _ _ | .clear _ _ | .join | .leaveFast | .restart _
  | .schedule _ _ | .propose _ | .cancel _ | .release _ | .response _ | .powerOn | .resetnFall
  | .startEnd _ _ | .holdAssertion | .holdRelease | .capEdge _ | .receiveTimeout | .overdrive
  | .beaconSentWhole | .ownSendInstant | .windowClose | .epochClose | .slewPoint | .triggerFire _
  | .sharedDeadline _ | .listenDeadline | .declinedExpiry | .pulseEnd _ | .startOfFrame => true

end Sys2Proof
end

