-- ==== Sys2Proof/Decode.lean ====
section
/-!
DEFINITION. Decode.lean: from wire bits to commands. The opcode table gives no row bits, so decodeTableWord
answers none; decodeSpi reads the bits, and decodeTransaction the bytes, of a station-port transaction by R178,
R181, R202 and the code table of spec/10 (10.5), and encodeTransaction is its converse.
-/
namespace Sys2Proof

/-- The command that a word spells by the bits of spec/opcode_table.json. No row of that table has bits. -/
def decodeTableWord (_nbits _w : Nat) : Option Instr := none

/-- How many parameter bytes a code byte requires (10.5). A code that names no command has 0. -/
def paramBytes (code : Byte) : Nat :=
  match code.toNat with
  | 0x13 | 0x14 | 0x15 | 0x16 => 1
  | 0x20 => 3
  | 0x21 | 0x22 => 2
  | 0x31 => 1
  | 0x40 => 15
  | 0x41 => 14
  | 0x42 | 0x50 => 1
  | _ => 0

/-- Two bytes as one number, most significant first (R202). -/
def word16 (a b : Byte) : BitVec 16 := a ++ b

/-- Three bytes as one number, most significant first (R202). -/
def word24 (a b c : Byte) : BitVec 24 := a ++ (b ++ c)

/-- Four bytes as one number, most significant first (R202). -/
def word32 (a b c d : Byte) : BitVec 32 := a ++ (b ++ (c ++ d))

/-- The 14 parameter bytes that SCHEDULE and PROPOSE share (10.5 Parameters). -/
def triggerParamsOf (ps : List Byte) : TriggerParams where
  targetEpoch := word32 (ps.getD 0 0) (ps.getD 1 0) (ps.getD 2 0) (ps.getD 3 0)
  targetPosition := word24 (ps.getD 4 0) (ps.getD 5 0) (ps.getD 6 0)
  width := word16 (ps.getD 7 0) (ps.getD 8 0)
  lines := ps.getD 9 0
  period := word16 (ps.getD 10 0) (ps.getD 11 0)
  repeats := word16 (ps.getD 12 0) (ps.getD 13 0)

/-- The command of a code byte and its parameter bytes (10.5). LEAVE's mode byte 2 is FAST. -/
def commandOf (pins : Pins) (code : Byte) (ps : List Byte) : Instr :=
  let p := ps.getD 0 0
  match code.toNat with
  | 0x10 => .readStatus
  | 0x11 => .readConfig
  | 0x12 => .readTime
  | 0x13 => .readEntry p
  | 0x14 => .readSchedule p
  | 0x15 => .readPeer p
  | 0x16 => .readLog p
  | 0x17 => .popEvent
  | 0x20 => .configure p (word16 (ps.getD 1 0) (ps.getD 2 0))
  | 0x21 => .setAlertMask p (ps.getD 1 0)
  | 0x22 => .clear p (ps.getD 1 0)
  | 0x30 => .join
  | 0x31 => if p = 2 then .leaveFast else .leaveSecure p
  | 0x32 => .restart pins
  | 0x40 => .schedule (triggerParamsOf ps) (ps.getD 14 0)
  | 0x41 => .propose (triggerParamsOf ps)
  | 0x42 => .cancel p
  | 0x50 => .release p
  | _ => .unknownCommand code

/-- The row of a transaction whose whole bytes, when CSn rises, are `rx` (R178, R179, R181). Bytes beyond the
required number are ignored. `pins` are the levels that a RESTART would sample. -/
def decodeTransaction (pins : Pins) (rx : List Byte) : Instr :=
  match rx with
  | [] => .transactionDiscarded 0
  | code :: ps =>
    if code = 0x00 then .response ps.length
    else if ps.length < paramBytes code then .transactionDiscarded (ps.length + 1)
    else commandOf pins code ps

/-- The bits of a byte as SPI carries them, most significant first (R202). -/
def byteBits (b : Byte) : List Bool := (List.range 8).map (fun i => b.getMsbD i)

/-- The byte that eight bits spell, most significant first (R202). -/
def byteOf (bits : List Bool) : Byte := BitVec.ofNat 8 (bits.foldl (fun n b => 2 * n + b.toNat) 0)

/-- The whole bytes of a transaction's bits; a partial last byte counts as not received (R178, R202). -/
def wholeBytes (bits : List Bool) : List Byte :=
  (List.range (bits.length / 8)).map (fun i => byteOf ((bits.drop (8 * i)).take 8))

/-- The row of a transaction that carried these bits on SDI when CSn rises (R178, R179, R181, R202). A RESPONSE
counts the bytes begun after its code, since SDO has shifted out bits of the last one. -/
def decodeSpi (pins : Pins) (bits : List Bool) : Instr :=
  match decodeTransaction pins (wholeBytes bits) with
  | .response _ => .response ((bits.length - 1) / 8)
  | c => c

/-- The bytes of a 16-bit number, most significant first (R202). -/
def bytes16 (w : BitVec 16) : List Byte := [w.extractLsb' 8 8, w.extractLsb' 0 8]

/-- The bytes of a 24-bit number, most significant first (R202). -/
def bytes24 (w : BitVec 24) : List Byte := [w.extractLsb' 16 8, w.extractLsb' 8 8, w.extractLsb' 0 8]

/-- The bytes of a 32-bit number, most significant first (R202). -/
def bytes32 (w : BitVec 32) : List Byte :=
  [w.extractLsb' 24 8, w.extractLsb' 16 8, w.extractLsb' 8 8, w.extractLsb' 0 8]

/-- The 14 bytes of the parameters that SCHEDULE and PROPOSE share (10.5 Parameters). -/
def triggerBytes (p : TriggerParams) : List Byte :=
  bytes32 p.targetEpoch ++ bytes24 p.targetPosition ++ bytes16 p.width ++ [p.lines] ++ bytes16 p.period
    ++ bytes16 p.repeats

/-- The bytes that a command transaction sends for a command (10.5); none for the events and for the two
transactions whose bytes the row does not fix. -/
def encodeTransaction : Instr → Option (List Byte)
  | .readStatus => some [0x10]
  | .readConfig => some [0x11]
  | .readTime => some [0x12]
  | .readEntry handle => some [0x13, handle]
  | .readSchedule position => some [0x14, position]
  | .readPeer station => some [0x15, station]
  | .readLog age => some [0x16, age]
  | .popEvent => some [0x17]
  | .configure ident value => some ([0x20, ident] ++ bytes16 value)
  | .setAlertMask mask enables => some [0x21, mask, enables]
  | .clear alertFlags corrFlags => some [0x22, alertFlags, corrFlags]
  | .join => some [0x30]
  | .leaveSecure mode => some [0x31, mode]
  | .leaveFast => some [0x31, 2]
  | .restart _ => some [0x32]
  | .schedule params options => some ([0x40] ++ triggerBytes params ++ [options])
  | .propose params => some ([0x41] ++ triggerBytes params)
  | .cancel handle => some [0x42, handle]
  | .release station => some [0x50, station]
  | .unknownCommand code => some [code]
  | .response _ | .transactionDiscarded _ | .powerOn | .resetnFall | .startEnd _ _ | .holdAssertion
  | .holdRelease | .capEdge _ | .frameEnd _ _ | .receiveTimeout | .overdrive | .beaconSentWhole
  | .ownSendInstant | .windowClose | .epochClose | .slewPoint | .triggerFire _ | .sharedDeadline _
  | .listenDeadline | .declinedExpiry | .pulseEnd _ | .startOfFrame | .referencePeriod _ => none

end Sys2Proof
end

