-- ==== Sys2Proof/Config.lean ====
section
/-!
DEFINITION. Config.lean: the one value that the spec leaves open. It has no body, so nothing in Lean can
evaluate it or prove a value of it.
-/
namespace Sys2Proof

/-- FREE VALUE, log 7. T is a 64-bit count (spec/02 R27) and the spec states no result where a sum would
carry it to 2^64 or beyond. The value T then shows, for each such exact sum. DESIGN CHOICE, safe. -/
opaque Config.timeBeyondRange : Nat → BitVec 64

end Sys2Proof
end

