-- ==== Sys2Proof/Machine/State.lean ====
section
/-!
DEFINITION. State.lean: everything the spec gives the machine, one structure per block of spec/00_scope.md, as
plain data, with the queue of waiting commands; the (empty) kinds of stop; and the state after reset.
-/
namespace Sys2Proof.Machine

/-! ## Names -/

/-- The seven station states (R90). -/
inductive StationState where
  | dormant | listen | acquire | track | holdover | leaving | halted
  deriving DecidableEq, Repr

/-- The causes of the cause table (R91), and START. -/
inductive Cause where
  | start | strap | joined | aligned | founded | locked | unlocked | isolated | relocked | holdoverExpired
  | merge | leaveSecure | holdSecure | leaveFast | holdFast | left | duplicate | overdriven
  deriving DecidableEq, Repr

/-- Halt causes (R90). -/
inductive HaltCause where
  | strap | duplicate | overdriven
  deriving DecidableEq, Repr

/-- Start causes (R195). -/
inductive StartCause where
  | powerOn | pin | command
  deriving DecidableEq, Repr

/-- The sender state of a beacon (R11). -/
inductive SenderState where
  | acquire | track | holdover | leaving
  deriving DecidableEq, Repr

/-- Rounding modes (R72). -/
inductive Rounding where
  | nearestEven | towardZero | down | up
  deriving DecidableEq, Repr

/-- Active level of a trigger line (R125). -/
inductive ActiveLevel where
  | high | low
  deriving DecidableEq, Repr

/-- Edge selection of a capture input (R166). -/
inductive EdgeSelection where
  | off | rise | fall | both
  deriving DecidableEq, Repr

/-- Hold reactions (R112). -/
inductive HoldReaction where
  | none | secure | fast
  deriving DecidableEq, Repr

/-- States of a peer table entry (R44, R45). -/
inductive PeerState where
  | absent | candidate | member | excluded | self
  deriving DecidableEq, Repr

/-- Actions of a correction (R74). -/
inductive Action where
  | step | slew | none
  deriving DecidableEq, Repr

/-- Result classes (R81). -/
inductive ResultClass where
  | negative | zero | positive
  deriving DecidableEq, Repr

/-- States of a schedule entry (R119). -/
inductive EntryState where
  | armed | pending
  deriving DecidableEq, Repr

/-- Reasons of an abandonment (R156). -/
inductive AbandonReason where
  | deadline | state
  deriving DecidableEq, Repr

/-- A rising or a falling edge (R167). -/
inductive Edge where
  | rise | fall
  deriving DecidableEq, Repr

/-- The twelve response codes (R181). -/
inductive ResponseCode where
  | ok | state | frozen | invalid | full | past | notFound | empty | busyProposal | held | notExcluded | unknown
  deriving DecidableEq, Repr

/-! ## Shared small records -/

/-- A set of the five alert flags (R188). -/
structure AlertSet where
  state : Bool
  membership : Bool
  event : Bool
  overflow : Bool
  correction : Bool
  deriving DecidableEq, Repr

/-- A set of the five correction flags (R80). -/
structure CorrFlags where
  inexact : Bool
  empty : Bool
  reduced : Bool
  clamped : Bool
  saturated : Bool
  deriving DecidableEq, Repr

/-- A shared trigger's name on the link: proposer and tag (R13). -/
structure Pair where
  proposer : Nat
  tag : Nat
  deriving DecidableEq, Repr

/-- A time given outward: low 32 bits of the epoch, and the position (R39). -/
structure Stamp where
  epoch : BitVec 32
  position : Nat
  deriving DecidableEq, Repr

/-- An offer (R12). On the wire `targetEpoch` is the low 32 bits; in a peer entry it is resolved (R45). -/
structure Offer where
  tag : Nat
  targetEpoch : Nat
  targetPosition : Nat
  width : Nat
  lines : LineSet
  period : Nat
  repeats : Nat
  deriving DecidableEq, Repr

/-- The content of a beacon (R11); `epoch` is the 32-bit field. The CRC stands in the frame's bits only. -/
structure Beacon where
  sender : Nat
  state : SenderState
  epoch : Nat
  view : StationSet
  offer : Option Offer
  held : List Pair
  deriving DecidableEq, Repr

/-! ## Ensemble timebase (R27) -/

/-- The timebase. `residue` and `periodLeft` are in units of 1/25,000,000 ns. -/
structure Timebase where
  /-- Ensemble time T. -/
  time : Nat
  /-- High-water time H. -/
  high : Nat
  /-- Rate trim R, in ppb. -/
  trim : Int
  slewAmount : Int
  slewBase : Option Nat
  slewLeft : Int
  residue : Int
  /-- Elapsed ensemble time of the reference period in progress that has not yet run (R28, R29; log 5). -/
  periodLeft : Nat
  deriving DecidableEq, Repr

/-! ## Link engine (R7, R21 to R26) -/

/-- The own beacon in progress: its content and bits as built, and which own send instant taken in LEAVING it
began at (0 when it began before LEAVING; R22, R109). -/
structure OwnBeacon where
  content : Beacon
  bits : List Bool
  leavingOrdinal : Nat
  deriving DecidableEq, Repr

/-- A frame being received, with its timing mark and corrected mark (R10). -/
structure Reception where
  timingMark : Nat
  correctedMark : Int
  deriving DecidableEq, Repr

/-- The link engine. -/
structure Link where
  /-- Window instants at or before this value of T are settled: taken, jumped or passed (R3 to R6; log 4). -/
  seqMark : Nat
  heard : StationSet
  beacon : Option OwnBeacon
  overdriveRun : Nat
  completeRun : Nat
  /-- The frame being received; absent while the receiver waits for a start-of-frame, or for idle (R8). -/
  reception : Option Reception
  /-- After a frame: the ns that T must yet run before the line can be idle (R8; log 25). -/
  idleIn : Nat
  deriving DecidableEq, Repr

/-! ## Peer table (R45) -/

/-- One entry of the peer table. -/
structure Peer where
  state : PeerState
  currentLead : Option Int
  lastLead : Option Int
  lastHeard : Option Nat
  reportedState : Option SenderState
  reportedView : Option StationSet
  held : List Pair
  offer : Option Offer
  goodRun : Nat
  missRun : Nat
  frame : Nat
  outlier : Nat
  view : Nat
  deriving DecidableEq, Repr

/-! ## Correction unit (R82, R86) -/

/-- One record of the epoch log (R86). -/
structure LogRecord where
  epoch : Nat
  state : StationState
  samples : Nat
  effectiveTrim : Nat
  correction : Int
  action : Action
  applied : Int
  trimAfter : Int
  flags : CorrFlags
  resultClass : ResultClass
  deriving DecidableEq, Repr

/-- The correction unit: the sticky flags and the epoch log, newest first. -/
structure CorrectionUnit where
  sticky : CorrFlags
  log : List LogRecord
  deriving DecidableEq, Repr

/-! ## Sync controller (R90) -/

/-- The sync controller. -/
structure Sync where
  state : StationState
  lastCause : Cause
  haltCause : Option HaltCause
  lockRun : Nat
  unlockRun : Nat
  relockRun : Nat
  holdoverCount : Nat
  leavingCount : Nat
  listenDeadline : Option Nat
  foreign : StationSet
  alignSources : StationSet
  holdLeft : Bool
  deriving DecidableEq, Repr

/-! ## Trigger schedule and agreement logic (R118, R119, R124, R140) -/

/-- Origin of an entry: LOCAL, or SHARED; a SHARED one carries its proposer and tag (R119). -/
inductive EntryKind where
  | localOnly
  | shared (name : Pair)
  deriving DecidableEq, Repr

/-- One schedule entry; its handle is its slot number (R119). `EntryKind.localOnly` is LOCAL. -/
structure Entry where
  kind : EntryKind
  state : EntryState
  nextFire : Nat
  width : Nat
  lines : LineSet
  period : Nat
  initialRepeats : Nat
  remaining : Nat
  fired : Nat
  skipped : Nat
  reportFires : Bool
  deadline : Option Nat
  heldFlag : Bool
  deriving DecidableEq, Repr

/-- One trigger line: its remaining active time in ns, and its condition (R124; log 9). -/
structure Line where
  remaining : Nat
  active : Bool
  deriving DecidableEq, Repr

/-- One record of the declined list (R140, R161). -/
structure Declined where
  name : Pair
  expiry : Nat
  deriving DecidableEq, Repr

/-- The trigger schedule and its agreement logic. -/
structure Schedule where
  /-- The 16 slots, by handle. -/
  slots : List (Option Entry)
  /-- The 4 trigger lines. -/
  lines : List Line
  ownProposal : Option Nat
  tagCounter : Nat
  /-- Oldest first. -/
  declined : List Declined
  deriving DecidableEq, Repr

/-! ## Capture unit and event queue (R166, R171) -/

/-- One capture input; its edge selection is in the configuration (R166). -/
structure CaptureInput where
  level : Bool
  holdoffStart : Option Nat
  deriving DecidableEq, Repr

/-- One record of the event queue (chapter 8.2). -/
inductive EventRecord where
  | capture (input : Nat) (edge : Edge) (stamp : Stamp) (state : StationState)
  | fire (handle : Nat) (kind : EntryKind) (scheduled : Stamp) (late : Bool) (skipped : Nat)
  | armed (handle : Nat) (name : Pair) (target : Stamp) (view : StationSet)
  | abandoned (handle : Nat) (name : Pair) (target : Stamp) (reason : AbandonReason) (missing : StationSet)
  | cancelled (handle : Nat) (name : Pair) (state : EntryState) (nextFire : Stamp)
      (fired skipped remaining : Nat)
  deriving DecidableEq, Repr

/-- The capture unit and the event queue, oldest record first. The overflow flag is the OVERFLOW alert (R173). -/
structure Capture where
  cap0 : CaptureInput
  cap1 : CaptureInput
  queue : List EventRecord
  deriving DecidableEq, Repr

/-! ## Station port (R180, R185, R188, R198) -/

/-- The configuration store (R185). -/
structure ConfigStore where
  lineDelay : Nat
  trimCount : Nat
  gain : Nat
  rounding : Rounding
  lockWindow : Nat
  unlockBound : Nat
  stepThreshold : Nat
  slewMax : Nat
  admitCount : Nat
  admitBound : Nat
  outlierBound : Nat
  missLimit : Nat
  frameThreshold : Nat
  outlierThreshold : Nat
  viewThreshold : Nat
  level0 : ActiveLevel
  level1 : ActiveLevel
  level2 : ActiveLevel
  level3 : ActiveLevel
  edge0 : EdgeSelection
  edge1 : EdgeSelection
  holdReaction : HoldReaction
  deriving DecidableEq, Repr

/-- The READ TIME record (R41). -/
structure TimeRecord where
  stamp : Stamp
  trim : Int
  slewLeft : Int
  state : StationState
  deriving DecidableEq, Repr

/-- The status record (R183). -/
structure StatusRecord where
  state : StationState
  lastCause : Cause
  haltCause : Option HaltCause
  memberCount : Nat
  raised : AlertSet
  mask : AlertSet
  signalling : AlertSet
  enables : CorrFlags
  sticky : CorrFlags
  queueCount : Nat
  overflow : Bool
  startCause : StartCause
  straps : Straps
  windowCount : Option Nat
  epochLength : Nat
  frozen : Bool
  ownProposal : Option Nat
  nextTag : Nat
  holdLeft : Bool
  holdLevel : Bool
  deriving DecidableEq, Repr

/-- A schedule entry as the controller reads it (R136). -/
structure EntryRecord where
  handle : Nat
  kind : EntryKind
  state : EntryState
  nextFire : Stamp
  width : Nat
  lines : LineSet
  period : Nat
  initialRepeats : Nat
  remaining : Nat
  fired : Nat
  skipped : Nat
  reportFires : Bool
  deadline : Option Stamp
  heldFlag : Bool
  deriving DecidableEq, Repr

/-- What a response record carries beside its header (R180, R202). -/
inductive ResponseBody where
  | nothing
  | startCause (cause : StartCause)
  | status (record : StatusRecord)
  | config (store : ConfigStore) (frozen : Bool)
  | time (record : TimeRecord)
  | entry (record : EntryRecord)
  | listed (count : Nat) (record : EntryRecord)
  | peer (entry : Peer)
  | log (record : LogRecord)
  | event (count : Nat) (record : EventRecord)
  | parameter (ident : Byte) (value : Nat)
  | masks (mask : AlertSet) (enables : CorrFlags)
  | handle (handle : Nat)
  | handleTag (handle tag : Nat)
  deriving DecidableEq, Repr

/-- A response record (R180). `command` is the code byte taken, 0xFF for the start record. -/
structure Response where
  command : Byte
  serial : Nat
  code : ResponseCode
  body : ResponseBody
  deriving DecidableEq, Repr

/-- The station port. -/
structure Port where
  /-- A power-on or RESETn start in progress, with the cause it will record (R195, R196). -/
  starting : Option StartCause
  /-- After a start, CSn has not yet been seen high (R196, R198). -/
  awaitCsHigh : Bool
  holder : Response
  serial : Nat
  /-- What SDO shifted out in the last transaction: these bytes, and fill bytes for whatever was clocked beyond
  them (R178, R179, R202; logs 18 and 23). `State.sdoBits` gives the bits. -/
  sdo : List Byte
  config : ConfigStore
  frozen : Bool
  /-- The sticky alert flags; EVENT stands false here, since it follows the queue (R175). -/
  alerts : AlertSet
  mask : AlertSet
  enables : CorrFlags
  startCause : StartCause
  straps : Straps
  holdLevel : Bool
  deriving DecidableEq, Repr

/-! ## The machine -/

/-- The whole machine, and the commands that wait, first in first out. -/
structure State where
  timebase : Timebase
  link : Link
  peers : List Peer
  correction : CorrectionUnit
  sync : Sync
  schedule : Schedule
  capture : Capture
  port : Port
  pending : List Instr
  deriving DecidableEq, Repr

/-- No command of this block stops the machine: the spec gives every row an effect, so nothing raises a fault
and the kind has no constructor. Safe. -/
inductive Fault where
  deriving DecidableEq, Repr

/-- Refusals. -/
inductive Refusal where
  /-- A row of the table whose meaning is not modelled yet; raised by exec's arms only, and by none of them
  now. Safe. -/
  | notModelled (mnemonic : String)
  deriving DecidableEq, Repr

/-! ## Start values, and reset -/

/-- No alert flag. -/
def AlertSet.none : AlertSet := ⟨false, false, false, false, false⟩

/-- No correction flag. -/
def CorrFlags.none : CorrFlags := ⟨false, false, false, false, false⟩

/-- The timebase after a start (R27). -/
def Timebase.start : Timebase := ⟨0, 0, 0, 0, .none, 0, 0, 0⟩

/-- The link engine after a start (R26). -/
def Link.start : Link := ⟨0, 0, .none, 0, 0, .none, 0⟩

/-- A peer entry with power-on values (R45). -/
def Peer.fresh : Peer :=
  { state := .absent, currentLead := .none, lastLead := .none, lastHeard := .none, reportedState := .none,
    reportedView := .none, held := [], offer := .none, goodRun := 0, missRun := 0, frame := 0, outlier := 0,
    view := 0 }

/-- The SELF entry, which holds nothing (R44). -/
def Peer.own : Peer := { Peer.fresh with state := .self }

/-- The correction unit after a start (R89). -/
def CorrectionUnit.start : CorrectionUnit := ⟨CorrFlags.none, []⟩

/-- The sync controller after a start, before its strap check (R90). -/
def Sync.start : Sync :=
  { state := .dormant, lastCause := .start, haltCause := .none, lockRun := 0, unlockRun := 0, relockRun := 0,
    holdoverCount := 0, leavingCount := 0, listenDeadline := .none, foreign := 0, alignSources := 0,
    holdLeft := false }

/-- An inactive trigger line. -/
def Line.off : Line := ⟨0, false⟩

/-- The schedule and agreement logic after a start (R139, R140). -/
def Schedule.start : Schedule :=
  { slots := List.replicate 16 .none, lines := List.replicate 4 Line.off, ownProposal := .none,
    tagCounter := 1, declined := [] }

/-- The capture unit and the event queue after a start that sampled these CAP levels (R166, R177). -/
def Capture.start (cap0 cap1 : Bool) : Capture := ⟨⟨cap0, .none⟩, ⟨cap1, .none⟩, []⟩

/-- Every parameter at its default (R185). -/
def ConfigStore.defaults : ConfigStore :=
  { lineDelay := 0, trimCount := 1, gain := 16, rounding := .nearestEven, lockWindow := 100,
    unlockBound := 500, stepThreshold := 1000, slewMax := 200, admitCount := 4, admitBound := 1000,
    outlierBound := 1000, missLimit := 3, frameThreshold := 24, outlierThreshold := 24, viewThreshold := 24,
    level0 := .high, level1 := .high, level2 := .high, level3 := .high, edge0 := .off, edge1 := .off,
    holdReaction := .none }

/-- The station port after a start of this cause that sampled these levels (R198). `csnLow` is CSn then. -/
def Port.start (cause : StartCause) (pins : Pins) (csnLow : Bool) : Port :=
  { starting := .none, awaitCsHigh := csnLow,
    holder := { command := 0xFF, serial := 0, code := .ok, body := .startCause cause },
    serial := 0, sdo := [], config := ConfigStore.defaults, frozen := false, alerts := AlertSet.none,
    mask := { AlertSet.none with state := true }, enables := CorrFlags.none, startCause := cause,
    straps := pins.straps, holdLevel := pins.hold }

/-- DESIGN CHOICE, log 1: the levels that State.reset's start sampled, every one low. -/
def Pins.allLow : Pins := ⟨⟨0, 0, 0, false⟩, false, false, false⟩

/-- The machine right after a power-on start with every sampled level low (log 1): k = 0, E = 256,000 ns and
W = 8, a valid pair, AUTO low, so the station stays in DORMANT (R92, R93). -/
def State.reset : State :=
  { timebase := Timebase.start, link := Link.start,
    peers := Peer.own :: List.replicate 7 Peer.fresh,
    correction := CorrectionUnit.start, sync := Sync.start, schedule := Schedule.start,
    capture := Capture.start false false, port := Port.start .powerOn Pins.allLow false, pending := [] }

end Sys2Proof.Machine
end

