-- ==== Sys2Proof/Machine/Geometry.lean ====
section
/-!
DEFINITION. Geometry.lean: epoch and window geometry from the straps (R1, R2), values of T (R27), epoch numbers
and positions (R39), the reading of 32-bit epochs (R40), and sets of station numbers (R201).
-/
namespace Sys2Proof.Machine

/-! ## Sets of station numbers -/

/-- Membership. -/
def inSet (set : StationSet) (j : Nat) : Bool := set.getLsbD j

/-- The set with j added. -/
def addTo (set : StationSet) (j : Nat) : StationSet := set ||| (1#32 <<< j)

/-- The set of the station numbers below 32 that satisfy p. -/
def stationsWhere (p : Nat → Bool) : StationSet :=
  (List.range 32).foldl (fun set j => if p j then addTo set j else set) 0

/-- How many numbers a set holds. -/
def cardinality (set : StationSet) : Nat := ((List.range 32).filter (inSet set)).length

/-- The lowest number of a set. -/
def lowest (set : StationSet) : Option Nat := (List.range 32).find? (inSet set)

/-! ## Straps and geometry -/

/-- E from the EPL reading (R193). -/
def epochLength (straps : Straps) : Nat := 256000 * 2 ^ straps.epl.toNat

/-- W from the WIN reading; the reading 3 names none (R193). -/
def windowCount (straps : Straps) : Option Nat :=
  if straps.win = 3 then none else some (8 * 2 ^ straps.win.toNat)

/-- W, and 0 where the WIN reading names none. -/
def windows (straps : Straps) : Nat := (windowCount straps).getD 0

/-- L = E/W (R1). -/
def windowLength (straps : Straps) : Nat := epochLength straps / windows straps

/-- G = L/8 (R1). -/
def guardTime (straps : Straps) : Nat := windowLength straps / 8

/-- The own station number k (R193). -/
def ownNumber (straps : Straps) : Nat := straps.stn.toNat

/-- The valid pairs of E and W (R1). -/
def validPairs : List (Nat × Nat) :=
  [(256000, 8), (512000, 8), (512000, 16), (1024000, 8), (1024000, 16), (1024000, 32), (2048000, 8),
   (2048000, 16), (2048000, 32)]

/-- The strap check (R92): the pair (E, W) is valid and k is below W. -/
def strapsValid (straps : Straps) : Bool :=
  validPairs.contains (epochLength straps, windows straps) && decide (ownNumber straps < windows straps)

/-- The table size (R44). -/
def tableSize (straps : Straps) : Nat := if strapsValid straps then windows straps else 32

/-- Send instant of window j in epoch n (R2). -/
def sendInstant (straps : Straps) (n j : Nat) : Nat :=
  n * epochLength straps + j * windowLength straps + guardTime straps

/-- Window close of window j in epoch n (R2). -/
def closeInstant (straps : Straps) (n j : Nat) : Nat :=
  n * epochLength straps + j * windowLength straps + 7 * guardTime straps

/-- The three kinds of window instant (R3). -/
inductive WindowInstant where
  | send (window : Nat)
  | windowClose (window : Nat)
  | epochClose
  deriving DecidableEq, Repr

/-- The window instant that stands at a value t of T, if any (R2). Without a window count there are epoch
closes alone (R1). The value 0 is no epoch close, since no epoch precedes it. -/
def windowInstantAt (straps : Straps) (t : Nat) : Option WindowInstant :=
  let e := epochLength straps
  if t % e = 0 then (if t = 0 then none else some .epochClose)
  else match windowCount straps with
    | none => none
    | some _ =>
      let l := windowLength straps
      let g := guardTime straps
      let j := t % e / l
      if t % e % l = g then some (.send j)
      else if t % e % l = 7 * g then some (.windowClose j)
      else none

/-- The window whose acceptance interval in epoch n holds a mark, if any (R2, R15). -/
def intervalHolding (straps : Straps) (n : Nat) (mark : Int) : Option Nat :=
  let offset := mark - (n * epochLength straps : Nat)
  if 0 ≤ offset ∧ offset < epochLength straps ∧ 0 < windows straps then
    let j := offset.toNat / windowLength straps
    if offset.toNat % windowLength straps ≤ 2 * guardTime straps then some j else none
  else none

/-! ## Values of T -/

/-- Units of the residue in one nanosecond (R27). -/
def unitsPerNs : Nat := 25000000

/-- A sum as the 64-bit count T holds it (R27); beyond its range a free value (log 7). -/
def timeOf (exact : Nat) : Nat :=
  if exact < 2 ^ 64 then exact else (Config.timeBeyondRange exact).toNat

/-- The epoch number of a value (R39). -/
def epochOf (straps : Straps) (v : Nat) : Nat := v / epochLength straps

/-- The position of a value (R39). -/
def positionOf (straps : Straps) (v : Nat) : Nat := v % epochLength straps

/-- A value as records give it outward (R39). -/
def stampOf (straps : Straps) (v : Nat) : Stamp :=
  ⟨BitVec.ofNat 32 (epochOf straps v), positionOf straps v⟩

/-- The full epoch number nearest r whose low 32 bits are v, the later one of two that are equally near; never
a negative one (R40). -/
def resolveEpoch (v r : Nat) : Nat :=
  let c := r / 2 ^ 32 * 2 ^ 32 + v
  if c ≤ r then (if 2 ^ 31 ≤ r - c then c + 2 ^ 32 else c)
  else if 2 ^ 31 < c - r ∧ 2 ^ 32 ≤ c then c - 2 ^ 32
  else c

/-! ## Views of State -/

namespace State

/-- The straps of the last start. -/
abbrev straps (s : State) : Straps := s.port.straps

/-- T. -/
abbrev now (s : State) : Nat := s.timebase.time

/-- The current epoch, floor(T/E) (R39). -/
def currentEpoch (s : State) : Nat := epochOf s.straps s.now

/-- The window epoch, floor(H/E) (R2). -/
def windowEpoch (s : State) : Nat := epochOf s.straps s.timebase.high

/-- T as records give it. -/
def stamp (s : State) : Stamp := stampOf s.straps s.now

/-- The own number k. -/
def own (s : State) : Nat := ownNumber s.straps

end State

/-- The states that send beacons and judge frames (R7). -/
def StationState.transmits : StationState → Bool
  | .acquire | .track | .holdover | .leaving => true
  | .dormant | .listen | .halted => false

/-- The set {TRACK, HOLDOVER} (R91). -/
def StationState.agrees : StationState → Bool
  | .track | .holdover => true
  | .dormant | .listen | .acquire | .leaving | .halted => false

/-- The states whose entry clears the peer table and the foreign set: DORMANT, LISTEN, HALTED (R65, R91). -/
def StationState.quiet : StationState → Bool
  | .dormant | .listen | .halted => true
  | .acquire | .track | .holdover | .leaving => false

end Sys2Proof.Machine
end

