-- ==== Sys2Proof/Machine/Flags.lean ====
section
/-!
DEFINITION. Flags.lean: sets of alert flags and of correction flags, their bytes (R201), the raised and the
signalling sets (R188, R189), and the pins that follow them (R125, R191, R196).
-/
namespace Sys2Proof.Machine

/-! ## Alert flags -/

/-- Bits of an alert-flag byte: 0 STATE, 1 MEMBERSHIP, 2 EVENT, 3 OVERFLOW, 4 CORRECTION (R201). -/
def AlertSet.ofBits (b : Byte) : AlertSet :=
  ⟨b.getLsbD 0, b.getLsbD 1, b.getLsbD 2, b.getLsbD 3, b.getLsbD 4⟩

/-- The byte of an alert set (R201). -/
def AlertSet.toByte (a : AlertSet) : Byte :=
  BitVec.ofNat 8 (a.state.toNat + 2 * a.membership.toNat + 4 * a.event.toNat + 8 * a.overflow.toNat
    + 16 * a.correction.toNat)

/-- Intersection. -/
def AlertSet.inter (a b : AlertSet) : AlertSet :=
  ⟨a.state && b.state, a.membership && b.membership, a.event && b.event, a.overflow && b.overflow,
   a.correction && b.correction⟩

/-- The flags of a that are not in b. -/
def AlertSet.minus (a b : AlertSet) : AlertSet :=
  ⟨a.state && !b.state, a.membership && !b.membership, a.event && !b.event, a.overflow && !b.overflow,
   a.correction && !b.correction⟩

/-- Whether a set holds any flag. -/
def AlertSet.any (a : AlertSet) : Bool :=
  a.state || a.membership || a.event || a.overflow || a.correction

/-! ## Correction flags -/

/-- Bits of a correction-flag byte: 0 INEXACT, 1 EMPTY, 2 REDUCED, 3 CLAMPED, 4 SATURATED (R201). -/
def CorrFlags.ofBits (b : Byte) : CorrFlags :=
  ⟨b.getLsbD 0, b.getLsbD 1, b.getLsbD 2, b.getLsbD 3, b.getLsbD 4⟩

/-- The byte of a set of correction flags (R201). -/
def CorrFlags.toByte (f : CorrFlags) : Byte :=
  BitVec.ofNat 8 (f.inexact.toNat + 2 * f.empty.toNat + 4 * f.reduced.toNat + 8 * f.clamped.toNat
    + 16 * f.saturated.toNat)

/-- Union. -/
def CorrFlags.union (a b : CorrFlags) : CorrFlags :=
  ⟨a.inexact || b.inexact, a.empty || b.empty, a.reduced || b.reduced, a.clamped || b.clamped,
   a.saturated || b.saturated⟩

/-- Intersection. -/
def CorrFlags.inter (a b : CorrFlags) : CorrFlags :=
  ⟨a.inexact && b.inexact, a.empty && b.empty, a.reduced && b.reduced, a.clamped && b.clamped,
   a.saturated && b.saturated⟩

/-- The flags of a that are not in b. -/
def CorrFlags.minus (a b : CorrFlags) : CorrFlags :=
  ⟨a.inexact && !b.inexact, a.empty && !b.empty, a.reduced && !b.reduced, a.clamped && !b.clamped,
   a.saturated && !b.saturated⟩

/-- Whether a set holds any flag. -/
def CorrFlags.any (f : CorrFlags) : Bool :=
  f.inexact || f.empty || f.reduced || f.clamped || f.saturated

/-! ## The raised and the signalling sets -/

namespace State

/-- The raised set: the sticky flags, and EVENT exactly while the event queue holds a record (R175, R188). -/
def raised (s : State) : AlertSet := { s.port.alerts with event := !s.capture.queue.isEmpty }

/-- The signalling set: raised and admitted by the mask (R189). -/
def signalling (s : State) : AlertSet := s.raised.inter s.port.mask

/-- Whether ALERTn is driven low: never during a start (R191, R196). -/
def alertLow (s : State) : Bool := s.port.starting.isNone && s.signalling.any

/-- Raise STATE (R91). -/
def raiseState (s : State) : State := { s with port.alerts.state := true }

/-- Raise MEMBERSHIP (R64). -/
def raiseMembership (s : State) : State := { s with port.alerts.membership := true }

/-- Raise OVERFLOW, which is to set the overflow flag (R173). -/
def raiseOverflow (s : State) : State := { s with port.alerts.overflow := true }

/-- Raise CORRECTION (R83). -/
def raiseCorrection (s : State) : State := { s with port.alerts.correction := true }

end State

/-! ## Trigger pins -/

/-- The configured active level of a line (R125, R185). -/
def ConfigStore.activeLevel (c : ConfigStore) (line : Nat) : ActiveLevel :=
  match line with
  | 0 => c.level0
  | 1 => c.level1
  | 2 => c.level2
  | _ => c.level3

/-- Whether TRGl drives high: its active level while the line is active, the other level while it is not
(R125); low while a start is in progress (R196). -/
def State.trgHigh (s : State) (line : Nat) : Bool :=
  s.port.starting.isNone
    && ((s.schedule.lines.getD line Line.off).active == (s.port.config.activeLevel line == .high))

end Sys2Proof.Machine
end

