-- ==== Sys2Proof/Machine/Operands.lean ====
section
/-!
DEFINITION. Operands.lean: what the parameter bytes of a command name (R181, R201, spec/10 10.5), and the range
checks on them (R121, R142, R185).
-/
namespace Sys2Proof.Machine

/-- An alert-flag byte; a set bit among 5 to 7 names nothing (R201). -/
def alertSetOf (b : Byte) : Option AlertSet := if b.toNat < 32 then some (AlertSet.ofBits b) else none

/-- A correction-flag byte; a set bit among 5 to 7 names nothing (R201). -/
def corrFlagsOf (b : Byte) : Option CorrFlags := if b.toNat < 32 then some (CorrFlags.ofBits b) else none

/-- A line-set byte; its upper four bits are 0 or it names nothing (R201). -/
def lineSetOf (b : Byte) : Option LineSet := if b.toNat < 16 then some (BitVec.ofNat 4 b.toNat) else none

/-- SCHEDULE's options byte: bit 0 is report-fires, the others are 0 or it names nothing (10.5). -/
def reportFiresOf (b : Byte) : Option Bool := if b.toNat < 2 then some (b.getLsbD 0) else none

/-! ## Trigger parameters -/

/-- The ranges that SCHEDULE and PROPOSE check (R121, R142), E being the epoch length. -/
def triggerRangesHold (e : Nat) (p : TriggerParams) (lines : LineSet) : Bool :=
  decide (p.targetPosition.toNat < e) && decide (1 ≤ p.width.toNat ∧ p.width.toNat ≤ 4095)
    && lines != 0 && decide (p.period.toNat ≤ 4095)
    && decide (1 ≤ p.repeats.toNat ∧ p.repeats.toNat ≤ 4095)
    && (p.period != 0 || p.repeats == 1)

/-! ## Configuration parameters -/

/-- The parameters of the configuration store, by identifier 1 to 22 (10.5). -/
inductive Param where
  | lineDelay | trimCount | gain | rounding | lockWindow | unlockBound | stepThreshold | slewMax | admitCount
  | admitBound | outlierBound | missLimit | frameThreshold | outlierThreshold | viewThreshold
  | level0 | level1 | level2 | level3 | edge0 | edge1 | holdReaction
  deriving DecidableEq, Repr

/-- Every parameter, in READ CONFIG order (10.5). -/
def allParams : List Param :=
  [.lineDelay, .trimCount, .gain, .rounding, .lockWindow, .unlockBound, .stepThreshold, .slewMax, .admitCount,
   .admitBound, .outlierBound, .missLimit, .frameThreshold, .outlierThreshold, .viewThreshold, .level0, .level1,
   .level2, .level3, .edge0, .edge1, .holdReaction]

/-- The parameter that an identifier byte names (10.5). -/
def paramOf (ident : Byte) : Option Param :=
  if ident = 0 then none else allParams[ident.toNat - 1]?

/-- The codes of the rounding modes (10.5). -/
def roundingCodes : List Rounding := [.nearestEven, .towardZero, .down, .up]

/-- The codes of the active levels (10.5). -/
def levelCodes : List ActiveLevel := [.high, .low]

/-- The codes of the edge selections (10.5). -/
def edgeCodes : List EdgeSelection := [.off, .rise, .fall, .both]

/-- The codes of the hold reactions (10.5). -/
def reactionCodes : List HoldReaction := [.none, .secure, .fast]

/-- Whether a value names something for this parameter: a number always does, a named code when the tables of
10.5 list it (R181, R186). -/
def Param.names (p : Param) (value : Nat) : Bool :=
  match p with
  | .rounding => decide (value < 4)
  | .level0 | .level1 | .level2 | .level3 => decide (value < 2)
  | .edge0 | .edge1 => decide (value < 4)
  | .holdReaction => decide (value < 3)
  | .lineDelay | .trimCount | .gain | .lockWindow | .unlockBound | .stepThreshold | .slewMax | .admitCount
  | .admitBound | .outlierBound | .missLimit | .frameThreshold | .outlierThreshold | .viewThreshold => true

/-- The range that CONFIGURE accepts (R185). -/
def Param.accepts (p : Param) (value : Nat) : Bool :=
  match p with
  | .lineDelay => decide (value ≤ 2000)
  | .trimCount => decide (value ≤ 3)
  | .gain => decide (value ≤ 64)
  | .lockWindow | .unlockBound | .stepThreshold | .admitBound | .outlierBound =>
    decide (10 ≤ value ∧ value ≤ 32000)
  | .slewMax => decide (10 ≤ value ∧ value ≤ 1000)
  | .admitCount | .missLimit => decide (1 ≤ value ∧ value ≤ 16)
  | .frameThreshold | .outlierThreshold | .viewThreshold => decide (4 ≤ value ∧ value ≤ 255)
  | .rounding | .level0 | .level1 | .level2 | .level3 | .edge0 | .edge1 | .holdReaction => p.names value

/-- The value of a parameter, named values by their codes (R184, 10.5). -/
def ConfigStore.get (c : ConfigStore) (p : Param) : Nat :=
  match p with
  | .lineDelay => c.lineDelay
  | .trimCount => c.trimCount
  | .gain => c.gain
  | .rounding => roundingCodes.idxOf c.rounding
  | .lockWindow => c.lockWindow
  | .unlockBound => c.unlockBound
  | .stepThreshold => c.stepThreshold
  | .slewMax => c.slewMax
  | .admitCount => c.admitCount
  | .admitBound => c.admitBound
  | .outlierBound => c.outlierBound
  | .missLimit => c.missLimit
  | .frameThreshold => c.frameThreshold
  | .outlierThreshold => c.outlierThreshold
  | .viewThreshold => c.viewThreshold
  | .level0 => levelCodes.idxOf c.level0
  | .level1 => levelCodes.idxOf c.level1
  | .level2 => levelCodes.idxOf c.level2
  | .level3 => levelCodes.idxOf c.level3
  | .edge0 => edgeCodes.idxOf c.edge0
  | .edge1 => edgeCodes.idxOf c.edge1
  | .holdReaction => reactionCodes.idxOf c.holdReaction

/-- The store with one parameter set (R186). -/
def ConfigStore.set (c : ConfigStore) (p : Param) (value : Nat) : ConfigStore :=
  match p with
  | .lineDelay => { c with lineDelay := value }
  | .trimCount => { c with trimCount := value }
  | .gain => { c with gain := value }
  | .rounding => { c with rounding := roundingCodes.getD value .nearestEven }
  | .lockWindow => { c with lockWindow := value }
  | .unlockBound => { c with unlockBound := value }
  | .stepThreshold => { c with stepThreshold := value }
  | .slewMax => { c with slewMax := value }
  | .admitCount => { c with admitCount := value }
  | .admitBound => { c with admitBound := value }
  | .outlierBound => { c with outlierBound := value }
  | .missLimit => { c with missLimit := value }
  | .frameThreshold => { c with frameThreshold := value }
  | .outlierThreshold => { c with outlierThreshold := value }
  | .viewThreshold => { c with viewThreshold := value }
  | .level0 => { c with level0 := levelCodes.getD value .high }
  | .level1 => { c with level1 := levelCodes.getD value .high }
  | .level2 => { c with level2 := levelCodes.getD value .high }
  | .level3 => { c with level3 := levelCodes.getD value .high }
  | .edge0 => { c with edge0 := edgeCodes.getD value .off }
  | .edge1 => { c with edge1 := edgeCodes.getD value .off }
  | .holdReaction => { c with holdReaction := reactionCodes.getD value .none }

/-- The cross-checks of JOIN, G being the guard (R94). -/
def ConfigStore.crossChecks (c : ConfigStore) (g : Nat) : Bool :=
  decide (c.lockWindow ≤ c.unlockBound ∧ c.unlockBound ≤ g ∧ c.lockWindow ≤ c.stepThreshold
    ∧ c.stepThreshold ≤ g ∧ c.admitBound ≤ g ∧ c.outlierBound ≤ g)

/-- The edge selection of a capture input (R166). -/
def ConfigStore.edge (c : ConfigStore) (input : Fin 2) : EdgeSelection :=
  if input = 0 then c.edge0 else c.edge1

end Sys2Proof.Machine
end

