-- ==== Sys2Proof/Machine/Arithmetic.lean ====
section
/-!
DEFINITION. Arithmetic.lean: the correction arithmetic (R70 to R81) as exact integer functions: the trimmed
mean, the rounding, the action, the clamp, the rate trim, the flags and the class of one close.
-/
namespace Sys2Proof.Machine

/-! ## Ordering -/

/-- Insert before the first element that is not at or below. -/
def insertBy {α : Type} (le : α → α → Bool) (x : α) : List α → List α
  | [] => [x]
  | y :: rest => if le x y then x :: y :: rest else y :: insertBy le x rest

/-- Ascending order; elements that compare equal keep the order they stood in. -/
def sortBy {α : Type} (le : α → α → Bool) : List α → List α
  | [] => []
  | x :: rest => insertBy le x (sortBy le rest)

/-! ## Rounding -/

/-- num/den, den above 0, rounded once in the given mode (R72). -/
def roundQuotient (mode : Rounding) (num : Int) (den : Nat) : Int :=
  let q := num / (den : Int)
  let r := num % (den : Int)
  match mode with
  | .down => q
  | .up => if r = 0 then q else q + 1
  | .towardZero => if r = 0 ∨ 0 ≤ num then q else q + 1
  | .nearestEven =>
    if 2 * r < den then q
    else if (den : Int) < 2 * r then q + 1
    else if q % 2 = 0 then q else q + 1

/-- Whether the rounding of num/den discards a non-zero fraction (R72, R77). -/
def discards (num : Int) (den : Nat) : Bool := num % (den : Int) != 0

/-! ## Sample set and trimmed mean -/

/-- Effective trim for a configured trim count and n samples (R71). -/
def effectiveTrim (trimCount n : Nat) : Nat := min trimCount ((n - 1) / 2)

/-- The sample set: the own 0 and the member leads (R70). -/
def sampleSet (leads : List Int) : List Int := 0 :: leads

/-- The kept values: the samples in order, without the t lowest and the t highest (R71). -/
def keptValues (t : Nat) (samples : List Int) : List Int :=
  ((sortBy (fun a b => decide (a ≤ b)) samples).drop t).take (samples.length - 2 * t)

/-! ## Clamping -/

/-- x held within -bound to +bound (R76, R78). -/
def clampTo (bound : Nat) (x : Int) : Int :=
  if (bound : Int) < x then bound else if x < -(bound : Int) then -(bound : Int) else x

/-- The limit of the rate trim, in ppb (R29). -/
def trimLimit : Nat := 200000

/-! ## One correction -/

/-- What one correction decides (R69 stages 1 to 5). -/
structure Decision where
  samples : Nat
  effectiveTrim : Nat
  correction : Int
  action : Action
  applied : Int
  trimAfter : Int
  flags : CorrFlags
  resultClass : ResultClass
  deriving DecidableEq, Repr

/-- The action by the station state and c (R74). -/
def actionOf (state : StationState) (stepThreshold : Nat) (c : Int) : Action :=
  match state with
  | .acquire => if (stepThreshold : Int) < c.natAbs then .step else .slew
  | .track => .slew
  | .holdover | .leaving | .dormant | .listen | .halted => .none

/-- The class of c (R81). -/
def classOf (c : Int) : ResultClass := if c < 0 then .negative else if c = 0 then .zero else .positive

/-- The correction of a close taken in `state` at rate trim `trim` from these member leads (R70 to R81). -/
def decideCorrection (config : ConfigStore) (state : StationState) (trim : Int) (leads : List Int) : Decision :=
  let samples := sampleSet leads
  let n := samples.length
  let t := effectiveTrim config.trimCount n
  let sum := (keptValues t samples).sum
  let den := n - 2 * t
  let c := roundQuotient config.rounding sum den
  let action := actionOf state config.stepThreshold c
  let s := clampTo config.slewMax c
  let trimNum := 64 * trim + c * config.gain
  let rounded := roundQuotient config.rounding trimNum 64
  let newTrim := clampTo trimLimit rounded
  { samples := n
    effectiveTrim := t
    correction := c
    action := action
    applied := match action with | .step => c | .slew => s | .none => 0
    trimAfter := match action with | .slew => newTrim | .step | .none => trim
    flags :=
      { inexact := discards sum den || (action == .slew && discards trimNum 64)
        empty := n == 1
        reduced := decide (t < config.trimCount)
        clamped := action == .slew && s != c
        saturated := action == .slew && newTrim != rounded }
    resultClass := classOf c }

end Sys2Proof.Machine
end

