-- ==== Sys2Proof/Machine/Wire.lean ====
section
/-!
DEFINITION. Wire.lean: the beacon on the line. The check sequence (R9, R200), the fields and their bits (R199),
field validity (R14), the building of a frame, the Manchester halves that carry it, sent and received, and the
receiver's watch over the line for idle, start-of-frame and noise (R8, R199).
-/
namespace Sys2Proof.Machine

/-! ## Bits and numbers, most significant first (R199, R201) -/

/-- The number that a run of bits writes. -/
def numberOf (bits : List Bool) : Nat := bits.foldl (fun n b => 2 * n + b.toNat) 0

/-- The last `width` bits of a number. -/
def bitsOf (width n : Nat) : List Bool :=
  ((List.range width).map (fun i => n.testBit i)).reverse

/-- The number in the `width` bits from `start` on. -/
def field (bits : List Bool) (start width : Nat) : Nat := numberOf ((bits.drop start).take width)

/-! ## The check sequence (R200) -/

/-- One field bit through the register. -/
def crcStep (register : BitVec 16) (bit : Bool) : BitVec 16 :=
  if register.msb != bit then (register <<< 1) ^^^ 0x1021 else register <<< 1

/-- The register after the field bits, from all ones. -/
def crc (bits : List Bool) : BitVec 16 := bits.foldl crcStep 0xFFFF

/-- The field bits of a frame: all but the last 16 (R9). -/
def fieldBits (bits : List Bool) : List Bool := bits.take (bits.length - 16)

/-- Whether a frame passes its CRC (R9). -/
def crcPasses (bits : List Bool) : Bool :=
  decide (16 ≤ bits.length)
    && bitsOf 16 (crc (fieldBits bits)).toNat == bits.drop (bits.length - 16)

/-! ## Encoding -/

/-- Sender state codes (R199). -/
def SenderState.code : SenderState → Nat
  | .acquire => 0
  | .track => 1
  | .holdover => 2
  | .leaving => 3

/-- The sender state of a 2-bit code (R199). -/
def SenderState.ofCode (n : Nat) : SenderState :=
  match n with
  | 0 => .acquire
  | 1 => .track
  | 2 => .holdover
  | _ => .leaving

/-- The 104 bits of an offer (R199). -/
def offerBits (o : Offer) : List Bool :=
  bitsOf 8 o.tag ++ bitsOf 32 o.targetEpoch ++ bitsOf 24 o.targetPosition ++ bitsOf 12 o.width
    ++ bitsOf 4 o.lines.toNat ++ bitsOf 12 o.period ++ bitsOf 12 o.repeats

/-- The 13 bits of a held pair (R199). -/
def pairBits (p : Pair) : List Bool := bitsOf 5 p.proposer ++ bitsOf 8 p.tag

/-- The field bits of a beacon (R199). -/
def beaconFieldBits (b : Beacon) : List Bool :=
  bitsOf 5 b.sender ++ bitsOf 2 b.state.code ++ bitsOf 32 b.epoch ++ bitsOf 32 b.view.toNat
    ++ bitsOf 1 b.offer.isSome.toNat ++ bitsOf 3 b.held.length
    ++ (match b.offer with | some o => offerBits o | none => [])
    ++ b.held.flatMap pairBits

/-- The bits of a whole beacon after its start-of-frame: the fields and the CRC (R199, R200). -/
def frameBits (b : Beacon) : List Bool :=
  beaconFieldBits b ++ bitsOf 16 (crc (beaconFieldBits b)).toNat

/-! ## Parsing -/

/-- The offer whose 104 bits start at `start`. -/
def offerAt (bits : List Bool) (start : Nat) : Offer where
  tag := field bits start 8
  targetEpoch := field bits (start + 8) 32
  targetPosition := field bits (start + 40) 24
  width := field bits (start + 64) 12
  lines := BitVec.ofNat 4 (field bits (start + 76) 4)
  period := field bits (start + 80) 12
  repeats := field bits (start + 92) 12

/-- The `count` held pairs from `start` on, in list order. -/
def pairsAt (bits : List Bool) (start count : Nat) : List Pair :=
  (List.range count).map fun i => ⟨field bits (start + 13 * i) 5, field bits (start + 13 * i + 5) 8⟩

/-- The fields of a frame's field bits, when their number is the one that offer-present and hold count imply
and hold count is 0 to 4 (R14, R199). -/
def parseFields (bits : List Bool) : Option Beacon :=
  let present := field bits 71 1 == 1
  let count := field bits 72 3
  let offerLength := if present then 104 else 0
  if 75 ≤ bits.length ∧ count ≤ 4 ∧ bits.length = 75 + offerLength + 13 * count then
    some
      { sender := field bits 0 5
        state := SenderState.ofCode (field bits 5 2)
        epoch := field bits 7 32
        view := BitVec.ofNat 32 (field bits 39 32)
        offer := if present then some (offerAt bits 75) else none
        held := pairsAt bits (75 + offerLength) count }
  else none

/-- The sender field, when the frame holds its 5 bits (R15; log 12). -/
def senderField (bits : List Bool) : Option Nat :=
  if 5 ≤ bits.length then some (field bits 0 5) else none

/-! ## Field validity (R12, R14) -/

/-- An offer's ranges (R12), E being the epoch length. -/
def offerValid (e : Nat) (o : Offer) : Bool :=
  decide (1 ≤ o.tag ∧ o.tag ≤ 255) && decide (o.targetPosition < e)
    && decide (1 ≤ o.width ∧ o.width ≤ 4095) && o.lines != 0 && decide (o.period ≤ 4095)
    && decide (1 ≤ o.repeats ∧ o.repeats ≤ 4095) && (o.period != 0 || o.repeats == 1)

/-- Whether no pair appears twice (R13, R14). -/
def pairsDistinct : List Pair → Bool
  | [] => true
  | p :: rest => !(rest.contains p) && pairsDistinct rest

/-- A beacon's fields are valid for W windows and epoch length E (R14). -/
def beaconValid (w e : Nat) (b : Beacon) : Bool :=
  decide (b.sender < w) && decide (b.view.toNat < 2 ^ w) && inSet b.view b.sender
    && (match b.offer with | some o => offerValid e o | none => true)
    && decide (b.held.length ≤ 4)
    && b.held.all (fun p => decide (p.proposer < w ∧ 1 ≤ p.tag ∧ p.tag ≤ 255))
    && pairsDistinct b.held

/-- The beacon of a frame that passes its CRC, when its fields are valid (R9, R14). -/
def validBeacon (straps : Straps) (bits : List Bool) : Option Beacon :=
  (parseFields (fieldBits bits)).filter (beaconValid (windows straps) (epochLength straps))

/-! ## Manchester halves (R8, R199) -/

/-- The line in one half of a bit time, 25 ns; `unclear` where it reads as neither level. -/
inductive Half where
  | dominant | recessive | unclear
  deriving DecidableEq, Repr

/-- The two halves of a bit: 0 is dominant then recessive, 1 is recessive then dominant (R199). -/
def bitHalves (bit : Bool) : List Half :=
  if bit then [.recessive, .dominant] else [.dominant, .recessive]

/-- The halves of a start-of-frame: 4 bit times of dominant (R199). -/
def startOfFrame : List Half := List.replicate 8 .dominant

/-- The halves that a frame of these bits puts on the line from its timing mark on (R199). -/
def lineHalves (bits : List Bool) : List Half := startOfFrame ++ bits.flatMap bitHalves

/-- One bit time, in ns (R199). -/
def bitTime : Nat := 50

/-- How many ns after a frame's end the line can be idle, 2 bit times of recessive, at the least (R8, R199): a last bit
0 has its recessive half before the end and a last bit 1 has none; a frame without a bit may have been recessive for a
bit time; a frame in error ends in a half that is not recessive (DESIGN CHOICE, logs 25, 27). -/
def idleAfter (bits : List Bool) (inError : Bool) : Nat :=
  if inError then 2 * bitTime
  else match bits.getLast? with
    | some false => 2 * bitTime - bitTime / 2
    | some true => 2 * bitTime
    | none => 2 * bitTime - bitTime

/-- How the reading of halves stands: more are to come, the line went idle, or the frame is in error (R8). -/
inductive Reading where
  | goingOn | idle | inError
  deriving DecidableEq, Repr

/-- How the reading stands once no bit begins: `run` recessive halves in a row have been read; 4 of them, 2 bit
times, are idle (R8). Anything else first makes the pair a code violation (log 24). -/
def readIdle (run : Nat) : List Half → Reading
  | .recessive :: rest => if run = 3 then .idle else readIdle (run + 1) rest
  | .dominant :: _ => .inError
  | .unclear :: _ => .inError
  | [] => .goingOn

/-- The bits that halves spell from 4 bit times after the timing mark on, and how the reading ends (R8, R199).
`run` is how many recessive halves stand before: those at the end of the 4 bit times, then 1 after a 0. Two like
halves name no bit: where the line does not go idle in them the frame ends in error (DESIGN CHOICE, log 24). -/
def readHalves (run : Nat) : List Half → List Bool × Reading
  | .dominant :: .recessive :: rest => (false :: (readHalves 1 rest).1, (readHalves 1 rest).2)
  | .recessive :: .dominant :: rest => (true :: (readHalves 0 rest).1, (readHalves 0 rest).2)
  | .recessive :: .recessive :: rest => ([], readIdle run (.recessive :: .recessive :: rest))
  | .recessive :: .unclear :: _ => ([], .inError)
  | .dominant :: .dominant :: _ => ([], .inError)
  | .dominant :: .unclear :: _ => ([], .inError)
  | .unclear :: _ => ([], .inError)
  | [.dominant] => ([], .goingOn)
  | [.recessive] => ([], readIdle run [.recessive])
  | [] => ([], .goingOn)

/-- The row of the receiver that these halves bring, read from 4 bit times after the timing mark on, `quiet` recessive
halves standing before them: the frame's end, in error or not, or the timeout of 254 bit times after the mark (R8,
R199); none while it goes on. -/
def frameRowAfter (quiet : Nat) (halves : List Half) : Option Instr :=
  match readHalves quiet (halves.take 500) with
  | (bits, .idle) => some (.frameEnd bits false)
  | (bits, .inError) => some (.frameEnd bits true)
  | (_, .goingOn) => if 500 ≤ halves.length then some .receiveTimeout else none

/-- The row after a start-of-frame of 4 bit times, as a station sends it: dominant to its end (R8, R199). -/
def frameRow (halves : List Half) : Option Instr := frameRowAfter 0 halves

/-! ## The receiver on the line (R8) -/

/-- What the receiver watches for: a start-of-frame, the line recessive for `quiet` halves, 4 of which are idle; the
end of a dominant run from idle that has lasted `run` halves; the end of the 4 bit times after the timing mark, `run`
halves of them gone, the last `quiet` of these recessive; the end of a frame of which it has read these halves, `quiet`
recessive ones before them. -/
inductive Watch where
  | waiting (quiet : Nat)
  | dominantRun (run : Nat)
  | leadIn (run quiet : Nat)
  | frame (quiet : Nat) (read : List Half)
  deriving DecidableEq, Repr

/-- The recessive halves at the end of these. -/
def trailingQuiet (read : List Half) : Nat := (read.reverse.takeWhile (· == .recessive)).length

/-- What the receiver watches for after the half that brought a frame's end: the line is idle at the half that shows
that the frame has ended, and after one in error the receiver waits for idle (R8). -/
def Watch.after (read : List Half) : Instr → Watch
  | .frameEnd _ false => .waiting 4
  | _ => .waiting (min 4 (trailingQuiet read))

/-- One half on the line: what the receiver watches for next, and the row that the half brings. From idle, a dominant
run of 3 bit times is a start-of-frame, whose timing mark is at its leading edge 5 halves ago (R10), and a shorter
one that recessive follows is noise. Bits are decoded from 4 bit times after the mark on, and the recessive halves
before count towards idle. While a frame is decoded it looks for none (R8). A half that reads as neither level ends a
recessive run and a dominant run from idle, the latter without a start-of-frame, and is ignored in the rest of the 4
bit times (DESIGN CHOICE, log 26). -/
def Watch.half (w : Watch) (h : Half) : Watch × Option Instr :=
  match w, h with
  | .waiting quiet, .recessive => (.waiting (min 4 (quiet + 1)), none)
  | .waiting quiet, .dominant => (if quiet = 4 then .dominantRun 1 else .waiting 0, none)
  | .waiting _, .unclear => (.waiting 0, none)
  | .dominantRun run, .dominant =>
    if run + 1 = 6 then (.leadIn 6 0, some .startOfFrame) else (.dominantRun (run + 1), none)
  | .dominantRun _, .recessive => (.waiting 1, none)
  | .dominantRun _, .unclear => (.waiting 0, none)
  | .leadIn run quiet, h =>
    let quiet := if h = .recessive then quiet + 1 else 0
    (if run + 1 = 8 then .frame quiet [] else .leadIn (run + 1) quiet, none)
  | .frame quiet read, h =>
    match frameRowAfter quiet (read ++ [h]) with
    | some row => (Watch.after (read ++ [h]) row, some row)
    | none => (.frame quiet (read ++ [h]), none)

/-- How many halves before the end of the half that brings a row its instant lies, where the row stands: a
start-of-frame's at its leading edge (R10), a frame's end at the end of the last bit time that was read as a bit (R199;
with no bit, 4 bit times after the mark: log 27). A frame in error and the timeout end with the half itself. -/
def Watch.halvesBack (w : Watch) (row : Instr) : Nat :=
  match w, row with
  | .dominantRun run, .startOfFrame => run + 1
  | .frame _ read, .frameEnd bits false => read.length + 1 - 2 * bits.length
  | _, _ => 0

/-- The rows that the halves on the line bring, each with the number of halves gone by at its instant; `passed` halves
have gone by before these (R8, R10, R199). -/
def Watch.rowsAt (w : Watch) (passed : Nat) : List Half → List (Nat × Instr)
  | [] => []
  | h :: rest =>
    match w.half h with
    | (next, some row) => (passed + 1 - w.halvesBack row, row) :: next.rowsAt (passed + 1) rest
    | (next, none) => next.rowsAt (passed + 1) rest

/-- The rows that the halves on the line bring, one after another. -/
def Watch.rows (w : Watch) : List Half → List Instr
  | [] => []
  | h :: rest =>
    match w.half h with
    | (next, some row) => row :: next.rows rest
    | (next, none) => next.rows rest

end Sys2Proof.Machine
end

