-- ==== Sys2Proof/Machine/Ops.lean ====
section
/-!
DEFINITION. Ops.lean: the operations that several commands share. The event queue, the peer table's accessors
and views, the schedule's slots, firing and jumps, the agreement logic, the state change of R91 with all it
brings about, the JOIN of R95, and membership changes.
-/
namespace Sys2Proof.Machine
namespace State

/-! ## Event queue (R172) -/

/-- Post a record: it joins the newest end, or is discarded and sets the overflow flag when 16 are held. -/
def post (s : State) (r : EventRecord) : State :=
  if s.capture.queue.length < 16 then { s with capture.queue := s.capture.queue ++ [r] }
  else s.raiseOverflow

/-! ## Peer table: reading and views (R63) -/

/-- The entry of a station number, when the table has one. -/
def peer (s : State) (p : Nat) : Option Peer := s.peers[p]?

/-- Whether the entry of a station is MEMBER. -/
def isMember (s : State) (p : Nat) : Bool :=
  match s.peer p with
  | some e => e.state == .member
  | none => false

/-- The member view (R63). -/
def memberView (s : State) : StationSet := stationsWhere s.isMember

/-- The member count (R63). -/
def memberCount (s : State) : Nat := s.peers.countP (fun e => e.state == .member)

/-- Replace one entry. -/
def setPeer (s : State) (p : Nat) (e : Peer) : State := { s with peers := s.peers.set p e }

end State

/-- The stored content and the current lead go, as on entry to ABSENT (R46). -/
def Peer.makeAbsent (e : Peer) : Peer :=
  { e with state := .absent, currentLead := none, goodRun := 0, reportedState := none, reportedView := none,
           held := [], offer := none }

/-- One entry at the clearing of R65: only the state and the three penalties outlast it. -/
def Peer.cleared (e : Peer) : Peer :=
  match e.state with
  | .self => e
  | .excluded =>
    { Peer.fresh with state := .excluded, frame := e.frame, outlier := e.outlier, view := e.view }
  | .absent | .candidate | .member =>
    { Peer.fresh with frame := e.frame, outlier := e.outlier, view := e.view }

namespace State

/-- The clearing of the peer table (R65): each CANDIDATE or MEMBER that becomes ABSENT raises MEMBERSHIP. Their
reports act on nothing: the sync controller is already in the new state (R91), and the state change has left no
PENDING entry to evaluate (R151; log 17). -/
def clearPeers (s : State) : State :=
  let changed := s.peers.any (fun e => e.state == .candidate || e.state == .member)
  let s1 := { s with peers := s.peers.map Peer.cleared }
  if changed then s1.raiseMembership else s1

/-! ## Schedule slots (R118, R120) -/

/-- The entry in a slot. -/
def entry (s : State) (h : Nat) : Option Entry := (s.schedule.slots[h]?).getD none

/-- Put an entry in a slot, or free it. -/
def setSlot (s : State) (h : Nat) (e : Option Entry) : State :=
  { s with schedule.slots := s.schedule.slots.set h e }

/-- The lowest free slot (R118). -/
def freeSlot (s : State) : Option Nat := (List.range 16).find? (fun h => (s.entry h).isNone)

/-- The entries with their handles, in ascending order of handle. -/
def handled (s : State) : List (Nat × Entry) :=
  (List.range 16).filterMap (fun h => (s.entry h).map (fun e => (h, e)))

/-- The list of entries: by next fire time, then by handle (R120). -/
def entryList (s : State) : List (Nat × Entry) :=
  sortBy (fun a b => decide (a.2.nextFire ≤ b.2.nextFire)) s.handled

/-! ## Trigger lines (R124) -/

end State

/-- A pulse of `width` units of 20 ns begins on a line (R124). -/
def Line.pulse (l : Line) (width : Nat) : Line := ⟨max l.remaining (width * 20), true⟩

/-- T advances by d ns: an active line's remaining active time falls (R124). It is inactive from the step
PULSE_END on (log 9). -/
def Line.advance (l : Line) (d : Nat) : Line := if l.active then { l with remaining := l.remaining - d } else l

namespace State

/-- Pulses begin on the lines of a set (R123). -/
def pulseLines (s : State) (lines : LineSet) (width : Nat) : State :=
  { s with schedule.lines :=
      s.schedule.lines.mapIdx (fun i l => if lines.getLsbD i then l.pulse width else l) }

end State

/-! ## Firing (R123, R126, R129, R130) -/

/-- The counts and the held-flag after a firing (R123 steps 2 and 3). -/
def Entry.counted (e : Entry) : Entry :=
  { e with fired := e.fired + 1, remaining := e.remaining - 1, heldFlag := false }

/-- An entry after a firing on time; none when it is removed (R123 step 5). -/
def Entry.afterFire (epoch : Nat) (e : Entry) : Option Entry :=
  if e.counted.remaining = 0 then none
  else some { e.counted with nextFire := e.nextFire + e.period * epoch }

/-- How many repetitions of an entry lie at or before b, the first at its fire time (R130). -/
def Entry.passedBy (epoch b : Nat) (e : Entry) : Nat := 1 + (b - e.nextFire) / (e.period * epoch)

/-- How many repetitions a forward jump to b skips, after the late firing (R130). -/
def Entry.skippedBy (epoch b : Nat) (e : Entry) : Nat :=
  if e.period = 0 then 0 else min (e.passedBy epoch b - 1) e.counted.remaining

/-- An entry after a late firing at a jump to b and its accounting; none when it is removed (R130). -/
def Entry.afterLateFire (epoch b : Nat) (e : Entry) : Option Entry :=
  let k := e.skippedBy epoch b
  if e.period = 0 ∨ e.counted.remaining ≤ k then none
  else some { e.counted with
                skipped := e.skipped + k
                remaining := e.counted.remaining - k
                nextFire := e.nextFire + e.passedBy epoch b * (e.period * epoch) }

namespace State

/-- E of the straps of the last start. -/
abbrev epochLen (s : State) : Nat := epochLength s.straps

/-- One firing: pulses, the entry as it stands afterwards, and its FIRE record when report-fires is set
(R123, R126, R129). -/
def fireAs (s : State) (h : Nat) (e : Entry) (after : Option Entry) (late : Bool) (skipped : Nat) : State :=
  let s1 := (s.pulseLines e.lines e.width).setSlot h after
  if e.reportFires then s1.post (.fire h e.kind (stampOf s.straps e.nextFire) late skipped) else s1

/-- A firing on time (R123). -/
def fireOnTime (s : State) (h : Nat) (e : Entry) : State :=
  s.fireAs h e (e.afterFire s.epochLen) false e.skipped

/-- A late firing at a forward jump to b (R129, R130). -/
def fireLate (s : State) (b h : Nat) (e : Entry) : State :=
  s.fireAs h e (e.afterLateFire s.epochLen b) true (e.skipped + e.skippedBy s.epochLen b)

/-- Whether the entry in a slot is ARMED with its fire time at T: T has reached it and it has not yet fired. -/
def fireDue (s : State) (h : Nat) : Bool :=
  match s.entry h with
  | some e => e.state == .armed && e.nextFire == s.now
  | none => false

/-- The entry in a slot fires on time when its fire time stands at T. -/
def fireIfDue (s : State) (h : Nat) : State :=
  match s.entry h with
  | some e => if e.state = .armed ∧ e.nextFire = s.now then s.fireOnTime h e else s
  | none => s

/-- Every entry whose fire time stands at T fires, in ascending order of handle (R127; log 3). -/
def takeFirings (s : State) : State := (List.range 16).foldl fireIfDue s

/-- Records of the declined list whose expiry stands at T are removed (R161). -/
def takeExpiries (s : State) : State :=
  { s with schedule.declined := s.schedule.declined.filter (fun d => d.expiry != s.now) }

/-- The firings and expiries that T has reached are taken before a step or an alignment moves it (R34, R127,
R132; log 8). -/
def takeReached (s : State) : State := s.takeFirings.takeExpiries

/-! ## Jumps of T: the schedule's part (R128 to R131, R161) -/

/-- The entry in a slot fires late when a forward jump from a to b passes it (R128, R129). -/
def lateFireIfPassed (a b : Nat) (s : State) (h : Nat) : State :=
  match s.entry h with
  | some e => if e.state = .armed ∧ a < e.nextFire ∧ e.nextFire ≤ b then s.fireLate b h e else s
  | none => s

/-- The schedule at a notice of a jump from a to b. Forward: late firings in ascending order of handle, and the
declined records it passes go. Backward: nothing (R128 to R131, R161). -/
def jumpSchedule (s : State) (a b : Nat) : State :=
  if a < b then
    let s1 := (List.range 16).foldl (lateFireIfPassed a b) s
    { s1 with schedule.declined := s1.schedule.declined.filter (fun d => decide (¬(a < d.expiry ∧ d.expiry ≤ b))) }
  else s

/-! ## Agreement logic (R141, R150 to R157) -/

end State

/-- Whether an entry is SHARED with its held-flag set (R141). -/
def Entry.isHeld (e : Entry) : Bool :=
  match e.kind with
  | .shared _ => e.heldFlag
  | .localOnly => false

/-- Whether an entry is SHARED under this name. -/
def Entry.isNamed (e : Entry) (name : Pair) : Bool :=
  match e.kind with
  | .shared n => n == name
  | .localOnly => false

/-- The order of the held list: next fire time, then proposer, then tag (R13, R141). -/
def heldBefore (a b : Nat × Pair) : Bool :=
  decide (a.1 < b.1) || (a.1 == b.1 && (decide (a.2.proposer < b.2.proposer)
    || (a.2.proposer == b.2.proposer && decide (a.2.tag ≤ b.2.tag))))

namespace State

/-- The own held list (R13, R141). -/
def heldList (s : State) : List Pair :=
  (sortBy heldBefore (s.handled.filterMap fun (_, e) =>
    match e.kind with
    | .shared name => if e.heldFlag then some (e.nextFire, name) else none
    | .localOnly => none)).map (·.2)

/-- The held count (R141). -/
def heldCount (s : State) : Nat := s.handled.countP (fun (_, e) => e.isHeld)

/-- Whether the schedule holds a SHARED entry of this name. -/
def holdsPair (s : State) (name : Pair) : Bool := s.handled.any (fun (_, e) => e.isNamed name)

/-- The arming condition of a SHARED entry (R150). -/
def armingHolds (s : State) (name : Pair) : Bool :=
  (name.proposer == s.own || s.isMember name.proposer)
    && s.peers.all (fun e => e.state != .member || e.held.contains name)

/-- The own proposal ends when it is the entry of this handle (R145). -/
def endProposal (s : State) (h : Nat) : State :=
  if s.schedule.ownProposal = some h then { s with schedule.ownProposal := none } else s

/-- An entry arms (R153). -/
def arm (s : State) (h : Nat) (name : Pair) (e : Entry) : State :=
  ((s.setSlot h (some { e with state := .armed, deadline := none })).endProposal h).post
    (.armed h name (stampOf s.straps e.nextFire) s.memberView)

/-- The PENDING SHARED entry in a slot, with its name. -/
def pendingEntry (s : State) (h : Nat) : Option (Pair × Entry) :=
  match s.entry h with
  | some e =>
    match e.kind, e.state with
    | .shared name, .pending => some (name, e)
    | .shared _, .armed => none
    | .localOnly, .armed => none
    | .localOnly, .pending => none
  | none => none

/-- Evaluate the arming of one slot (R151, R152). -/
def evaluateSlot (s : State) (h : Nat) : State :=
  match s.pendingEntry h with
  | some (name, e) => if s.armingHolds name then s.arm h name e else s
  | none => s

/-- Evaluate the arming of every PENDING SHARED entry, in ascending order of handle (R151). -/
def evaluateArming (s : State) : State := (List.range 16).foldl evaluateSlot s

/-- An entry is abandoned: removed, the own proposal ended if it was that, and its record posted (R156, R157). -/
def abandon (s : State) (h : Nat) (name : Pair) (e : Entry) (reason : AbandonReason) (missing : StationSet) :
    State :=
  ((s.setSlot h none).endProposal h).post (.abandoned h name (stampOf s.straps e.nextFire) reason missing)

/-- Abandon the entry in a slot with reason STATE when it is PENDING (R157). -/
def abandonSlot (s : State) (h : Nat) : State :=
  match s.pendingEntry h with
  | some (name, e) => s.abandon h name e .state 0
  | none => s

/-- Every PENDING SHARED entry is abandoned on leaving the set of TRACK and HOLDOVER (R157). -/
def abandonPending (s : State) : State := (List.range 16).foldl abandonSlot s

/-- The missing set of an abandonment at a deadline (R156). -/
def missingFor (s : State) (name : Pair) : StationSet :=
  stationsWhere fun m =>
    (match s.peer m with
      | some e => e.state == .member && !(e.held.contains name)
      | none => false)
    || (m == name.proposer && name.proposer != s.own && !(s.isMember name.proposer))

/-- Whether the entry in a slot is PENDING with its deadline at T. -/
def deadlineDue (s : State) (h : Nat) : Bool :=
  match s.pendingEntry h with
  | some (_, e) => e.deadline == some s.now
  | none => false

/-- The entry in a slot is abandoned with reason DEADLINE when T has reached its deadline (R156). -/
def deadlineIfDue (s : State) (h : Nat) : State :=
  match s.pendingEntry h with
  | some (name, e) =>
    if e.deadline = some s.now then s.abandon h name e .deadline (s.missingFor name) else s
  | none => s

/-! ## State changes (R91) -/

end State

/-- The halt cause that a transition to HALTED sets (R90, R91). -/
def haltCauseOf : Cause → Option HaltCause
  | .strap => some .strap
  | .duplicate => some .duplicate
  | .overdriven => some .overdriven
  | .start | .joined | .aligned | .founded | .locked | .unlocked | .isolated | .relocked | .holdoverExpired
  | .merge | .leaveSecure | .holdSecure | .leaveFast | .holdFast | .left => none

/-- The sync controller's own items at a state change (R91 points 1 and 3 to 7). -/
def Sync.enter (y : Sync) (new : StationState) (cause : Cause) : Sync :=
  { y with
    state := new
    lastCause := cause
    lockRun := 0
    unlockRun := 0
    relockRun := 0
    holdoverCount := 0
    leavingCount := 0
    listenDeadline := if new = .listen then y.listenDeadline else none
    alignSources := if new = .listen then y.alignSources else 0
    foreign := if new.quiet then 0 else y.foreign
    haltCause := if new = .halted then haltCauseOf cause else y.haltCause }

/-- The link engine at a state change: DORMANT and HALTED cut off a beacon in progress, which sets the
complete-beacon run to 0 (R25); LISTEN sets both runs to 0 (R26). -/
def Link.enter (l : Link) (new : StationState) : Link :=
  match new with
  | .dormant | .halted =>
    match l.beacon with
    | some _ => { l with beacon := none, completeRun := 0 }
    | none => l
  | .listen => { l with overdriveRun := 0, completeRun := 0 }
  | .acquire | .track | .holdover | .leaving => l

namespace State

/-- A state change, without the rejoin that entry to DORMANT may bring (R91). -/
def enter (s : State) (new : StationState) (cause : Cause) : State :=
  let s1 := if s.sync.state.agrees && !new.agrees then s.abandonPending else s
  let s2 := { s1 with sync := s1.sync.enter new cause, link := s1.link.enter new }.raiseState
  if new.quiet then s2.clearPeers else s2

/-- The listen deadline set now: T + 4E + kL (R95, R107). -/
def deadlineFromNow (s : State) : Nat := s.now + 4 * s.epochLen + s.own * windowLength s.straps

/-- The first check of JOIN that fails, if any (R94). -/
def joinRefusal (s : State) : Option ResponseCode :=
  if s.sync.state ≠ .dormant then some .state
  else if s.port.holdLevel ∧ s.port.config.holdReaction ≠ .none then some .held
  else if !(s.port.config.crossChecks (guardTime s.straps)) then some .invalid
  else none

/-- The effects of an accepted JOIN (R95). -/
def acceptJoin (s : State) : State :=
  let s1 := { s with port.frozen := true, sync.holdLeft := false, sync.alignSources := 0 }.enter .listen .joined
  { s1 with sync.listenDeadline := some s.deadlineFromNow }

/-- A JOIN that no command sends: the AUTO strap's or HOLD's. It is checked as R94 gives, and it has no
response (R93, R114). -/
def joinUnasked (s : State) : State :=
  match s.joinRefusal with
  | none => s.acceptJoin
  | some _ => s

/-- A state change. On entry to DORMANT with the hold-left marker set and HOLD released, the station joins at
once (R91, R114). -/
def changeState (s : State) (new : StationState) (cause : Cause) : State :=
  let s1 := s.enter new cause
  if new = .dormant ∧ s1.sync.holdLeft ∧ !s1.port.holdLevel then s1.joinUnasked else s1

/-! ## Membership changes (R64, R103) -/

/-- The sync controller's part of a membership change: in TRACK, the last MEMBER lost is isolation (R103). -/
def isolationCheck (s : State) (old : PeerState) : State :=
  if s.sync.state = .track ∧ old = .member ∧ s.memberCount = 0 then s.changeState .holdover .isolated else s

/-- What follows a change of a peer entry's state outside a beacon notice, the entry standing in its new state:
MEMBERSHIP is raised, arming is evaluated, and the sync controller is told (R64, R103, R151). -/
def reportChange (s : State) (old : PeerState) : State :=
  (s.raiseMembership.evaluateArming).isolationCheck old

/-- Replace an entry outside a beacon notice, with the reports of a membership change when its state changes. -/
def updatePeer (s : State) (p : Nat) (old new : Peer) : State :=
  let s1 := s.setPeer p new
  if old.state = new.state then s1 else s1.reportChange old.state

end State
end Sys2Proof.Machine
end

