-- ==== Sys2Proof/Machine/PeerTable.lean ====
section
/-!
DEFINITION. PeerTable.lean: what the events of the link do to a peer entry and what follows from it. Arrivals
(R47 to R56), LEAVING beacons (R50), bad frames (R57, R59), missed windows (R58), and the taking of offers from
a beacon notice (R148, R149).
-/
namespace Sys2Proof.Machine

/-! ## One entry -/

/-- One penalty count at an arrival: 4 up, stopping at 255, or 1 down, stopping at 0 (R52). -/
def penaltyStep (rises : Bool) (n : Nat) : Nat := if rises then min 255 (n + 4) else n - 1

/-- Whether a penalty stands at or above its threshold (R59). -/
def Peer.tripped (c : ConfigStore) (e : Peer) : Bool :=
  decide (c.frameThreshold ≤ e.frame ∨ c.outlierThreshold ≤ e.outlier ∨ c.viewThreshold ≤ e.view)

/-- The content of a beacon stored in the entry of its sender; its offer's epoch resolved against the window
epoch (R40, R51). -/
def Peer.store (e : Peer) (b : Beacon) (windowEpoch : Nat) : Peer :=
  { e with
    reportedState := some b.state
    reportedView := some b.view
    held := b.held
    offer := b.offer.map (fun o => { o with targetEpoch := resolveEpoch o.targetEpoch windowEpoch }) }

/-- The lead recorded, and the miss run cleared (R47, R49). -/
def Peer.recordLead (e : Peer) (lead : Int) (windowEpoch : Nat) : Peer :=
  { e with currentLead := some lead, lastLead := some lead, lastHeard := some windowEpoch, missRun := 0 }

/-- The penalties and the good run updated by an arrival (R52, R54). -/
def Peer.judge (e : Peer) (c : ConfigStore) (lead : Int) (viewTest : Bool) : Peer :=
  { e with
    frame := penaltyStep false e.frame
    outlier := penaltyStep (decide (c.outlierBound < lead.natAbs)) e.outlier
    view := penaltyStep viewTest e.view
    goodRun :=
      if e.state = .excluded then 0
      else if lead.natAbs ≤ c.admitBound then min 255 (e.goodRun + 1)
      else 0 }

/-- The final state of an arrival (R55). -/
def Peer.settle (e : Peer) (c : ConfigStore) : Peer :=
  match e.state with
  | .self => e
  | .excluded =>
    if e.frame = 0 ∧ e.outlier = 0 ∧ e.view = 0 then { e with state := .candidate, goodRun := 0 } else e
  | .absent | .candidate =>
    if e.tripped c then { e with state := .excluded, goodRun := 0 }
    else if c.admitCount ≤ e.goodRun then { e with state := .member }
    else { e with state := .candidate }
  | .member => if e.tripped c then { e with state := .excluded, goodRun := 0 } else e

/-- An entry after one arrival whose sender state is not LEAVING (R49 steps 1 to 6). -/
def Peer.afterArrival (e : Peer) (c : ConfigStore) (b : Beacon) (lead : Int) (windowEpoch : Nat)
    (viewTest : Bool) : Peer :=
  (((e.store b windowEpoch).recordLead lead windowEpoch).judge c lead viewTest).settle c

/-- An entry after a LEAVING beacon (R50). -/
def Peer.afterLeaving (e : Peer) (windowEpoch : Nat) : Peer :=
  match e.state with
  | .candidate | .member => { e.makeAbsent with lastHeard := some windowEpoch }
  | .absent | .excluded => { e with lastHeard := some windowEpoch }
  | .self => e

/-- An entry after a bad frame charged to it, and the trip it may bring (R57, R59). -/
def Peer.afterBadFrame (e : Peer) (c : ConfigStore) : Peer :=
  let e1 := { e with frame := min 255 (e.frame + 4) }
  match e.state with
  | .candidate | .member => if e1.tripped c then { e1 with state := .excluded, goodRun := 0 } else e1
  | .absent | .excluded => e1
  | .self => e

/-- An entry after a window close that found its peer not heard (R58). -/
def Peer.afterMiss (e : Peer) (c : ConfigStore) : Peer :=
  let e1 := { e with missRun := min 255 (e.missRun + 1), goodRun := 0 }
  match e.state with
  | .candidate | .member => if c.missLimit ≤ e1.missRun then e1.makeAbsent else e1
  | .absent | .excluded => e1
  | .self => e

/-- An EXCLUDED entry released (R61). -/
def Peer.afterRelease (e : Peer) : Peer := { e.makeAbsent with frame := 0, outlier := 0, view := 0 }

namespace State

/-! ## Offers (R148, R149) -/

/-- The SHARED entry that an offer or a proposal makes (R144, R149). -/
def newShared (s : State) (name : Pair) (target width : Nat) (lines : LineSet) (period repeats : Nat) : Entry :=
  { kind := .shared name, state := .pending, nextFire := target, width := width, lines := lines,
    period := period, initialRepeats := repeats, remaining := repeats, fired := 0, skipped := 0,
    reportFires := true, deadline := some (target - 2 * s.epochLen), heldFlag := true }

/-- Whether a pair stands in the declined list (R161). -/
def isDeclined (s : State) (name : Pair) : Bool := s.schedule.declined.any (fun d => d.name == name)

/-- An offer from peer p is taken up when p is MEMBER, the station is in TRACK or HOLDOVER, the pair is neither
held nor declined, and it can be held; otherwise it is passed over (R148, R149). -/
def takeOffer (s : State) (p : Nat) (o : Offer) : State :=
  let name : Pair := ⟨p, o.tag⟩
  match s.freeSlot with
  | some h =>
    if s.isMember p && s.sync.state.agrees && !(s.holdsPair name) && !(s.isDeclined name)
        && decide (s.heldCount < 4) && decide (s.currentEpoch + 3 ≤ o.targetEpoch) then
      s.setSlot h (some (s.newShared name (o.targetEpoch * s.epochLen + o.targetPosition) o.width o.lines
        o.period o.repeats))
    else s
  | none => s

/-- A beacon notice at the agreement logic: the stored offer is taken up or passed over, then the arming of
every PENDING entry is evaluated (R56, R148, R151). -/
def beaconNotice (s : State) (p : Nat) (offer : Option Offer) : State :=
  (match offer with
    | some o => s.takeOffer p o
    | none => s).evaluateArming

/-! ## Events of an entry -/

/-- The VIEW test of an arrival from an entry (R53). -/
def viewTest (s : State) (e : Peer) (b : Beacon) : Bool :=
  s.sync.state == .track && decide (8 ≤ s.link.completeRun) && e.state == .member && b.state == .track
    && !(inSet b.view s.own)

/-- A good beacon from p at the peer table (R49, R50). -/
def arrival (s : State) (p : Nat) (lead : Int) (b : Beacon) : State :=
  match s.peer p with
  | none => s
  | some e =>
    if e.state = .self then s
    else if b.state = .leaving then s.updatePeer p e (e.afterLeaving s.windowEpoch)
    else
      let e1 := e.afterArrival s.port.config b lead s.windowEpoch (s.viewTest e b)
      let s1 := s.setPeer p e1
      let s2 := if e.state = e1.state then s1 else s1.raiseMembership
      let s3 := s2.beaconNotice p e1.offer
      if e.state = e1.state then s3 else s3.isolationCheck e.state

/-- A bad frame charged to p at the peer table (R57). -/
def badFrame (s : State) (p : Nat) : State :=
  match s.peer p with
  | some e => s.updatePeer p e (e.afterBadFrame s.port.config)
  | none => s

/-- The close of peer window p, not heard, at the peer table (R58). -/
def missedWindow (s : State) (p : Nat) : State :=
  match s.peer p with
  | some e => s.updatePeer p e (e.afterMiss s.port.config)
  | none => s

/-- The member leads of the epoch just closed, in ascending station order (R48). -/
def memberLeads (s : State) : List Int :=
  s.peers.filterMap (fun e => if e.state = .member then e.currentLead else none)

/-- Every current lead becomes absent (R48). -/
def clearLeads (s : State) : State := { s with peers := s.peers.map (fun e => { e with currentLead := none }) }

end State
end Sys2Proof.Machine
end

