-- ==== Sys2Proof/Machine/TimebaseOps.lean ====
section
/-!
DEFINITION. TimebaseOps.lean: what moves T, and what a correction result does. Running and slew units (R28,
R32), steps (R34) and alignments (R36, R37) with their notices (R38), the correction of a close (R69) and the
sync controller's handling of its result (R100 to R107).
-/
namespace Sys2Proof.Machine
namespace State

/-! ## Running and slew units -/

/-- T advances by d ns without a jump: H moves up with it, each active line's time falls, and so does the receiver's
wait for idle (R8, R28, R30, R124). -/
def advanceTime (s : State) (d : Nat) : State :=
  let t := timeOf (s.now + d)
  { s with
    timebase.time := t
    timebase.high := max s.timebase.high t
    link.idleIn := s.link.idleIn - d
    schedule.lines := s.schedule.lines.map (fun l => l.advance d) }

/-- T runs d whole ns of the reference period in progress. As T reaches each value the residue is 0 (R28). -/
def runNs (s : State) (d : Nat) : State :=
  let rest := s.timebase.residue + s.timebase.periodLeft - (d * unitsPerNs : Nat)
  let s1 := s.advanceTime d
  { s1 with timebase.residue := 0, timebase.periodLeft := rest.toNat }

/-- How many whole ns T can still run in the reference period in progress (R28). -/
def wholeNs (s : State) : Nat := ((s.timebase.residue + s.timebase.periodLeft) / (unitsPerNs : Int)).toNat

/-- The reference period in progress ends: what is left of it rests in the residue (R28). -/
def endPeriod (s : State) : State :=
  { s with timebase.residue := s.timebase.residue + s.timebase.periodLeft, timebase.periodLeft := 0 }

/-- The slew point of the next unit, while units remain (R31). -/
def nextSlewPoint (s : State) : Option Nat :=
  match s.timebase.slewBase with
  | some base =>
    if s.timebase.slewLeft = 0 then none
    else
      let n := s.timebase.slewAmount.natAbs
      let j := n - s.timebase.slewLeft.natAbs + 1
      some (base + j * s.epochLen / (n + 1))
  | none => none

/-- One slew unit at its slew point. The unit is added to the residue and the slew remaining moves towards 0; a
positive unit so brings the residue to 1 ns or more, and T advances at once by 1 ns (R32). -/
def slewUnit (s : State) : State :=
  if 0 < s.timebase.slewLeft then
    let s1 := { s with timebase.slewLeft := s.timebase.slewLeft - 1 }
    if 0 ≤ s.timebase.residue then s1.advanceTime 1
    else { s1 with timebase.residue := s.timebase.residue + unitsPerNs }
  else
    { s with timebase.slewLeft := s.timebase.slewLeft + 1, timebase.residue := s.timebase.residue - unitsPerNs }

/-- A SLEW close hands the timebase a slew amount and a new rate trim (R29, R31). -/
def beginSlew (s : State) (amount trim : Int) : State :=
  { s with
    timebase.slewAmount := amount
    timebase.slewBase := some s.now
    timebase.slewLeft := amount
    timebase.trim := trim }

/-! ## Jumps -/

/-- Whether an own send instant lies in a+1 to b, both in the epoch of b (R4). -/
def ownSendPassed (s : State) (a b : Nat) : Bool :=
  (windowCount s.straps).isSome &&
    (let x := sendInstant s.straps (epochOf s.straps b) s.own
     decide (a < x ∧ x ≤ b))

/-- The window sequencer and the trigger schedule at the notice of a step from a to b: a forward step settles
the instants it passes, and an own send instant among them sets the complete-beacon run to 0 (R4, R5, R26). -/
def noticeStep (s : State) (a b : Nat) : State :=
  let s1 :=
    if a < b then
      { s with
        link.seqMark := max s.link.seqMark b
        link.completeRun := if s.ownSendPassed a b then 0 else s.link.completeRun }
    else s
  s1.jumpSchedule a b

/-- A step of c at an epoch close (R34). -/
def stepTime (s : State) (c : Int) : State :=
  let s0 := s.takeReached
  let a := s0.now
  let b := timeOf (a + c).toNat
  let s1 := { s0 with
    timebase.time := b
    timebase.residue := 0
    timebase.high := if 0 < c then b else s0.timebase.high }
  s1.noticeStep a b

/-- The new T of an alignment to a beacon with this corrected mark (R36). -/
def alignedTime (s : State) (b : Beacon) (mark : Int) : Nat :=
  timeOf ((sendInstant s.straps (resolveEpoch b.epoch s.windowEpoch) b.sender : Nat) + (s.now - mark) : Int).toNat

/-- An alignment of T to a new value, with its notices (R6, R37, R38). -/
def alignTime (s : State) (b : Nat) : State :=
  let s0 := s.takeReached
  let a := s0.now
  let s1 := { s0 with
    timebase.time := b
    timebase.high := b
    timebase.residue := 0
    timebase.slewAmount := 0
    timebase.slewBase := none
    timebase.slewLeft := 0
    link.seqMark := b
    link.heard := 0 }
  s1.jumpSchedule a b

/-! ## The sync controller at a correction result (R100 to R107) -/

/-- The lowest number of the own group as the own station sees it (R106). -/
def lowestOwn (s : State) : Nat :=
  match lowest s.memberView with
  | some j => min s.own j
  | none => s.own

/-- The merge test (R106). -/
def mergeCalled (s : State) : Bool :=
  let f := cardinality s.sync.foreign
  let m := s.memberCount + 1
  match lowest s.sync.foreign with
  | none => false
  | some low => decide (m < f) || (f == m && decide (low < s.lowestOwn))

/-- The merge: LISTEN with the foreign set as alignment-source set and a listen deadline (R107). -/
def merge (s : State) : State :=
  let sources := s.sync.foreign
  let s1 := s.changeState .listen .merge
  { s1 with sync.alignSources := sources, sync.listenDeadline := some s1.deadlineFromNow }

/-- The lock run in ACQUIRE (R101). -/
def lockStep (s : State) (c : Int) (action : Action) : State :=
  let run := if c.natAbs ≤ s.port.config.lockWindow ∧ action ≠ .step then s.sync.lockRun + 1 else 0
  let s1 := { s with sync.lockRun := run }
  if 8 ≤ run then s1.changeState .track .locked else s1

/-- The unlock run in TRACK (R102). -/
def unlockStep (s : State) (c : Int) : State :=
  let run := if s.port.config.unlockBound < c.natAbs then s.sync.unlockRun + 1 else 0
  let s1 := { s with sync.unlockRun := run }
  if 3 ≤ run then s1.changeState .holdover .unlocked else s1

/-- The relock run and the holdover count in HOLDOVER (R104). -/
def holdoverStep (s : State) (c : Int) : State :=
  let run := if 1 ≤ s.memberCount ∧ c.natAbs ≤ s.port.config.lockWindow then s.sync.relockRun + 1 else 0
  let s1 := { s with sync.relockRun := run, sync.holdoverCount := s.sync.holdoverCount + 1 }
  if 8 ≤ run then s1.changeState .track .relocked
  else if 1024 ≤ s1.sync.holdoverCount then s1.changeState .acquire .holdoverExpired
  else s1

/-- The runs of the station state at a result that does not merge (R100 step 2). -/
def advanceRuns (s : State) (c : Int) (action : Action) : State :=
  match s.sync.state with
  | .acquire => s.lockStep c action
  | .track => s.unlockStep c
  | .holdover => s.holdoverStep c
  | .leaving | .dormant | .listen | .halted => s

/-- A correction result handled whole: the merge test, else the runs, and the foreign set emptied (R100). -/
def handleResult (s : State) (c : Int) (action : Action) : State :=
  let tested := s.sync.state == .acquire || s.sync.state.agrees
  let s1 := if tested && s.mergeCalled then s.merge else s.advanceRuns c action
  { s1 with sync.foreign := 0 }

/-! ## The correction of one close (R69) -/

/-- The action handed to the timebase (R74 to R79). -/
def applyAction (s : State) (d : Decision) : State :=
  match d.action with
  | .step => s.stepTime d.correction
  | .slew => s.beginSlew d.applied d.trimAfter
  | .none => s

/-- The flags of a close join the sticky set, and raise CORRECTION where the enables call for it (R82, R83). -/
def recordFlags (s : State) (flags : CorrFlags) : State :=
  let s1 := { s with correction.sticky := s.correction.sticky.union flags }
  if (flags.inter s.port.enables).any then s1.raiseCorrection else s1

/-- A record joins the epoch log at age 0; one that would reach age 16 is dropped (R87). -/
def writeLog (s : State) (r : LogRecord) : State :=
  { s with correction.log := (r :: s.correction.log).take 16 }

/-- The log record of a decision for the closed epoch (R86). -/
def logRecord (epoch : Nat) (state : StationState) (d : Decision) : LogRecord :=
  { epoch := epoch, state := state, samples := d.samples, effectiveTrim := d.effectiveTrim,
    correction := d.correction, action := d.action, applied := d.applied, trimAfter := d.trimAfter,
    flags := d.flags, resultClass := d.resultClass }

/-- What a close taken now decides (R70 to R81). -/
def decision (s : State) : Decision :=
  decideCorrection s.port.config s.sync.state s.timebase.trim s.memberLeads

/-- One correction, for the epoch that ends at T (R69). -/
def correct (s : State) : State :=
  let d := s.decision
  let closed := s.currentEpoch - 1
  let state := s.sync.state
  ((((s.clearLeads.applyAction d).recordFlags d.flags).writeLog (logRecord closed state d)).handleResult
    d.correction d.action)

end State
end Sys2Proof.Machine
end

