-- ==== Sys2Proof/Machine/Transmitter.lean ====
section
/-!
DEFINITION. Transmitter.lean: the own beacon. Its building at the own send instant (R21, R109, R147), its end
whole (R24) and its cut by overdrive (R23), with what the ends mean in LEAVING (R109) and at three cuts (R116).
-/
namespace Sys2Proof.Machine
namespace State

/-- Whether no start is in progress (R196). During one, no event of the blocks is taken (log 14). -/
def running (s : State) : Bool := s.port.starting.isNone

end State

/-- The sender state that a beacon built in a transmitting state carries (R21). -/
def StationState.senderState : StationState → SenderState
  | .acquire => .acquire
  | .track => .track
  | .holdover => .holdover
  | .leaving | .dormant | .listen | .halted => .leaving

namespace State

/-- The offer of the own proposal, while the schedule holds it PENDING (R21, R147). -/
def ownOffer (s : State) : Option Offer :=
  match s.schedule.ownProposal with
  | some h =>
    match s.pendingEntry h with
    | some (name, e) =>
      some
        { tag := name.tag
          targetEpoch := epochOf s.straps e.nextFire % 2 ^ 32
          targetPosition := positionOf s.straps e.nextFire
          width := e.width
          lines := e.lines
          period := e.period
          repeats := e.initialRepeats }
    | none => none
  | none => none

/-- The beacon built from the other blocks at a send instant (R11, R21). -/
def buildBeacon (s : State) : Beacon :=
  let silent := s.sync.state == .leaving
  { sender := s.own
    state := s.sync.state.senderState
    epoch := s.windowEpoch % 2 ^ 32
    view := addTo s.memberView s.own
    offer := if silent then none else s.ownOffer
    held := if silent then [] else s.heldList }

/-- The own send instant at T is taken in a transmitting state: a frame being received is dropped (R20), in
LEAVING the leaving count goes up (R109), and the beacon built begins (R21). -/
def beginBeacon (s : State) : State :=
  let count := if s.sync.state = .leaving then min 2 (s.sync.leavingCount + 1) else s.sync.leavingCount
  let content := s.buildBeacon
  { s with
    sync.leavingCount := count
    link.reception := none
    link.beacon := some
      { content := content
        bits := frameBits content
        leavingOrdinal := if s.sync.state = .leaving then count else 0 } }

/-- The report that an own beacon has ended, at the sync controller: the end of the second beacon begun in
LEAVING is the end of LEAVING (R109). -/
def beaconEnded (s : State) (b : OwnBeacon) : State :=
  if s.sync.state = .leaving ∧ b.leavingOrdinal = 2 then s.changeState .dormant .left else s

/-- The half that the transmitter drives, counted from the send instant: those of the beacon in progress, and
recessive where it is over or there is none (R21, R23, R199). -/
def drivenHalf (s : State) (i : Nat) : Half :=
  match s.link.beacon with
  | some b => (lineHalves b.bits).getD i .recessive
  | none => .recessive

/-- Whether a half of the beacon in progress is read back, so that the line found dominant in it is OVERDRIVE: each
recessive half that it drives (R23, R199). -/
def readsBack (s : State) (i : Nat) : Bool :=
  match s.link.beacon with
  | some b => (lineHalves b.bits)[i]? == some .recessive
  | none => false

/-- The beacon in progress is sent whole (R24). -/
def sentWhole (s : State) (b : OwnBeacon) : State :=
  { s with
    link.beacon := none
    link.overdriveRun := 0
    link.completeRun := min 255 (s.link.completeRun + 1) }.beaconEnded b

/-- The beacon in progress is cut off by overdrive (R23); a run of 3 halts the station (R116), which comes
before the end of LEAVING (R109). -/
def cutByOverdrive (s : State) (b : OwnBeacon) : State :=
  let run := min 3 (s.link.overdriveRun + 1)
  let s1 := { s with link.beacon := none, link.overdriveRun := run, link.completeRun := 0 }
  if run = 3 ∧ s.sync.state.transmits then s1.changeState .halted .overdriven else s1.beaconEnded b

end State

/-- BEACON_SENT_WHOLE: nothing ends while no beacon is in progress (log 6). -/
def execBeaconSentWhole (s : State) : Host.Outcome State Fault Refusal :=
  match s.link.beacon with
  | some b => .next (if s.running then s.sentWhole b else s)
  | none => .next s

/-- OVERDRIVE: nothing is cut while no beacon is in progress (log 6). -/
def execOverdrive (s : State) : Host.Outcome State Fault Refusal :=
  match s.link.beacon with
  | some b => .next (if s.running then s.cutByOverdrive b else s)
  | none => .next s

end Sys2Proof.Machine
end

