-- ==== Sys2Proof/Machine/Instants.lean ====
section
/-!
DEFINITION. Instants.lean: the instants that T reaches (R3, R7, R30). Each taking is one operation; the row of
the table takes its instant when it stands at T untaken, and has no effect when it does not (log 6). `settle`
takes whatever still stands at T when REFERENCE_PERIOD must move T on (log 3).
-/
namespace Sys2Proof.Machine
namespace State

/-! ## Which instants stand at T, or at T + d once T has run there -/

/-- The window instant at T that has not been settled (R3). -/
def untakenInstant (s : State) : Option WindowInstant :=
  if s.link.seqMark < s.now then windowInstantAt s.straps s.now else none

/-- Whether a window instant has an effect in the present station state (R7). -/
def instantActs (s : State) (i : WindowInstant) : Bool :=
  match i with
  | .send j => s.sync.state.transmits && j == s.own
  | .windowClose j => s.sync.state.transmits && j != s.own
  | .epochClose => true

/-- Whether a window instant with an effect stands at T + d. -/
def windowDue (s : State) (d : Nat) : Bool :=
  decide (s.link.seqMark < s.now + d) &&
    (match windowInstantAt s.straps (s.now + d) with
      | some i => s.instantActs i
      | none => false)

/-- Whether an entry fires at T + d, or is abandoned there (R123, R156). -/
def entryDue (s : State) (d : Nat) (e : Entry) : Bool :=
  match e.state with
  | .armed => e.nextFire == s.now + d
  | .pending => e.deadline == some (s.now + d)

/-- Whether any instant of the part stands at T + d: of the window sequencer, a fire time or deadline, a
declined record's expiry, the listen deadline, a slew point, or the end of a pulse. -/
def dueIn (s : State) (d : Nat) : Bool :=
  s.windowDue d
    || s.schedule.slots.any (fun slot => match slot with | some e => s.entryDue d e | none => false)
    || s.schedule.declined.any (fun r => r.expiry == s.now + d)
    || (s.sync.state == .listen && s.sync.listenDeadline == some (s.now + d))
    || s.nextSlewPoint == some (s.now + d)
    || s.schedule.lines.any (fun l => l.active && l.remaining == d)

/-! ## Takings -/

/-- The window instant at T is settled (R3). -/
def markTaken (s : State) : State := { s with link.seqMark := s.now }

/-- The own send instant at T is taken (R7, R21). -/
def takeOwnSend (s : State) : State :=
  if s.untakenInstant = some (.send s.own) then
    if s.sync.state.transmits then s.markTaken.beginBeacon else s.markTaken
  else s

/-- The window close at T is taken; that of the own window has no effect (R7, R58). -/
def takeWindowClose (s : State) : State :=
  match s.untakenInstant with
  | some (.windowClose j) =>
    if s.sync.state.transmits && j != s.own && !(inSet s.link.heard j) then s.markTaken.missedWindow j
    else s.markTaken
  | some (.send _) | some .epochClose | none => s

/-- The epoch close at T is taken: the set of windows heard is emptied, and in a transmitting state a correction
is made (R7, R69). -/
def takeEpochClose (s : State) : State :=
  if s.untakenInstant = some .epochClose then
    let s1 := { s.markTaken with link.heard := 0 }
    if s.sync.state.transmits then s1.correct else s1
  else s

/-- Whether T stands at the slew point of the next unit (R31). -/
def slewDue (s : State) : Bool := s.nextSlewPoint == some s.now

/-- The slew unit due at T is applied (R32). -/
def takeSlewPoint (s : State) : State := if s.slewDue then s.slewUnit else s

/-- The PENDING entries whose deadline stands at T are abandoned, in ascending order of handle (R156; log 3). -/
def takeDeadlines (s : State) : State := (List.range 16).foldl deadlineIfDue s

/-- T stands at the listen deadline in LISTEN: the station founds (R99). -/
def takeListenDeadline (s : State) : State :=
  if s.sync.state = .listen ∧ s.sync.listenDeadline = some s.now then s.changeState .acquire .founded else s

end State

/-- A line whose remaining active time is 0 becomes inactive (R124). -/
def Line.ended (l : Line) : Line := if l.remaining = 0 then { l with active := false } else l

namespace State

/-- Every pulse whose time has run out ends (R124). -/
def takePulseEnds (s : State) : State := { s with schedule.lines := s.schedule.lines.map Line.ended }

/-- What stands at T is taken, in the model's order, but for a slew unit (log 3). -/
def settleStanding (s : State) : State :=
  s.takeFirings.takeDeadlines.takeExpiries.takeListenDeadline.takeOwnSend.takeWindowClose.takeEpochClose.takePulseEnds

/-- The slew unit due at T is applied. A positive one moves T on by running, so what else stands at T is taken
before it (R32; log 8). -/
def takeSlewRow (s : State) : State :=
  if s.slewDue && decide (0 < s.timebase.slewLeft) then s.settleStanding.takeSlewPoint else s.takeSlewPoint

/-- All that stands at T is taken, a slew unit last (log 3). -/
def settle (s : State) : State := s.settleStanding.takeSlewRow

end State

/-! ## The rows -/

/-- OWN_SEND_INSTANT (R7, R21). -/
def execOwnSendInstant (s : State) : Host.Outcome State Fault Refusal :=
  .next (if s.running then s.takeOwnSend else s)

/-- WINDOW_CLOSE (R7, R58). -/
def execWindowClose (s : State) : Host.Outcome State Fault Refusal :=
  .next (if s.running then s.takeWindowClose else s)

/-- EPOCH_CLOSE (R7, R69). -/
def execEpochClose (s : State) : Host.Outcome State Fault Refusal :=
  .next (if s.running then s.takeEpochClose else s)

/-- SLEW_POINT (R32). -/
def execSlewPoint (s : State) : Host.Outcome State Fault Refusal :=
  .next (if s.running then s.takeSlewRow else s)

/-- TRIGGER_FIRE (R123). -/
def execTriggerFire (handle : Fin 16) (s : State) : Host.Outcome State Fault Refusal :=
  .next (if s.running then s.fireIfDue handle else s)

/-- SHARED_DEADLINE (R156). -/
def execSharedDeadline (handle : Fin 16) (s : State) : Host.Outcome State Fault Refusal :=
  .next (if s.running then s.deadlineIfDue handle else s)

/-- LISTEN_DEADLINE (R99). -/
def execListenDeadline (s : State) : Host.Outcome State Fault Refusal :=
  .next (if s.running then s.takeListenDeadline else s)

/-- DECLINED_EXPIRY (R161). -/
def execDeclinedExpiry (s : State) : Host.Outcome State Fault Refusal :=
  .next (if s.running then s.takeExpiries else s)

/-- PULSE_END (R124). -/
def execPulseEnd (line : Fin 4) (s : State) : Host.Outcome State Fault Refusal :=
  .next (if s.running then { s with schedule.lines := s.schedule.lines.modify line Line.ended } else s)

end Sys2Proof.Machine
end

