-- ==== Sys2Proof/Machine/Running.lean ====
section
/-!
DEFINITION. Running.lean: the reference period (R28). T runs ns by ns through every value on its way; where an
instant stands at a value that T must leave, it is taken first (R3, R30; logs 3 and 5).
-/
namespace Sys2Proof.Machine
namespace State

/-- How far T runs next, of at most m ns: to the first value at which an instant stands, or all m. -/
def nextStop (s : State) (m : Nat) : Nat :=
  (((List.range m).map (· + 1)).find? s.dueIn).getD m

/-- Everything that stands at T is taken, and what stands at a value that a taking leaves T on (R3, R30, R32). The
fuel bounds the values: a step and a positive slew unit move T once each. -/
def settleAll : Nat → State → State
  | 0, s => s
  | fuel + 1, s => if s.dueIn 0 then settleAll fuel s.settle else s

/-- A reference period adds 40 + R/25,000,000 ns, R being the trim as it begins (R28, R29). What stands at T is
taken before it begins, so that an epoch close there gives it its trim (R29; log 3). One already in progress goes
on. -/
def beginPeriod (s : State) : State :=
  if s.timebase.periodLeft = 0 then
    let s1 := settleAll 4 s
    { s1 with timebase.periodLeft := ((40 * unitsPerNs : Nat) + s1.timebase.trim).toNat }
  else s

/-- T runs in the reference period in progress until it is used up or `stop` ns of T have run. What stands at a
value of T is taken as T stands on it, before any more of the period elapses, its fraction below 1 ns included
(R3, R30, R34). The fuel bounds the number of values stopped at and of takings. -/
def runPeriod : Nat → Option Nat → State → State
  | 0, _, s => s
  | fuel + 1, stop, s =>
    if stop = some 0 ∨ s.timebase.periodLeft = 0 then s
    else if s.dueIn 0 then runPeriod fuel stop s.settle
    else if s.wholeNs = 0 then s.endPeriod
    else
      let d := s.nextStop (match stop with | some k => min k s.wholeNs | none => s.wholeNs)
      runPeriod fuel (stop.map (· - d)) (s.runNs d)

end State

/-- REFERENCE_PERIOD (R28). While a power-on or RESETn start is in progress T is held at 0 (R196). -/
def execReferencePeriod (stop : Option Nat) (s : State) : Host.Outcome State Fault Refusal :=
  .next (if s.running then s.beginPeriod.runPeriod 128 stop else s)

end Sys2Proof.Machine
end

