-- ==== Sys2Proof/Machine/Receiver.lean ====
section
/-!
DEFINITION. Receiver.lean: frames received. The start-of-frame and its marks (R8, R10), the end of a frame and
its classification in the transmitting states (R15 to R18) and in LISTEN (R19, R97, R98), strays (R105) and
own-number arrivals (R115).
-/
namespace Sys2Proof.Machine

/-- The classes of a received frame in the transmitting states (R15). -/
inductive FrameClass where
  | ownNumber
  | badFrame (window : Nat)
  | discarded
  | stray (beacon : Beacon)
  | good (beacon : Beacon)
  deriving DecidableEq, Repr

/-- Whether a frame passes its CRC: one that ended in error does not (R8, R9). -/
def framePasses (bits : List Bool) (inError : Bool) : Bool := !inError && crcPasses bits

/-- Whether a frame that passes its CRC bears the own number (R15 row 1; log 12). -/
def bearsOwnNumber (straps : Straps) (bits : List Bool) : Bool :=
  senderField (fieldBits bits) == some (ownNumber straps)

/-- The class of a frame with this corrected mark, against window epoch n (R15). -/
def classify (straps : Straps) (n : Nat) (mark : Int) (bits : List Bool) (inError : Bool) : FrameClass :=
  let passes := framePasses bits inError
  if passes && bearsOwnNumber straps bits then .ownNumber
  else
    match (if passes then validBeacon straps bits else none) with
    | none =>
      match intervalHolding straps n mark with
      | some j => .badFrame j
      | none => .discarded
    | some b =>
      if intervalHolding straps n mark = some b.sender ∧ resolveEpoch b.epoch n = n then .good b
      else .stray b

/-- The lead of a good beacon from p: its send instant minus its corrected mark (R16). -/
def leadOf (straps : Straps) (n p : Nat) (mark : Int) : Int := (sendInstant straps n p : Nat) - mark

namespace State

/-- A good beacon at its delivery: the first of its sender in the window epoch is an arrival, a later one a bad
frame charged to the sender (R16). -/
def deliverGood (s : State) (b : Beacon) (mark : Int) : State :=
  if inSet s.link.heard b.sender then s.badFrame b.sender
  else
    { s with link.heard := addTo s.link.heard b.sender }.arrival b.sender
      (leadOf s.straps s.windowEpoch b.sender mark) b

/-- A stray at the sync controller (R18, R105). -/
def hearStray (s : State) (b : Beacon) : State :=
  if b.state = .leaving then s else { s with sync.foreign := addTo s.sync.foreign b.sender }

/-- A frame's end in a transmitting state: classified and delivered (R15 to R18). A bad frame in the own window
has no effect (R17). -/
def judgeFrame (s : State) (mark : Int) (bits : List Bool) (inError : Bool) : State :=
  match classify s.straps s.windowEpoch mark bits inError with
  | .ownNumber => s.changeState .halted .duplicate
  | .badFrame j => if j = s.own then s else s.badFrame j
  | .discarded => s
  | .stray b => s.hearStray b
  | .good b => s.deliverGood b mark

/-- Whether a heard beacon is the aligning beacon (R97). -/
def aligns (s : State) (b : Beacon) : Bool :=
  b.state != .leaving && (s.sync.alignSources == 0 || inSet s.sync.alignSources b.sender)

/-- The aligning beacon ends: the alignment, the change to ACQUIRE, and the same frame classified again with
its mark carried into the new timebase (R19, R37, R98). -/
def alignTo (s : State) (b : Beacon) (mark : Int) (bits : List Bool) : State :=
  let new := s.alignedTime b mark
  let s1 := (s.alignTime new).changeState .acquire .aligned
  s1.judgeFrame (mark + (new - s.now)) bits false

/-- A frame's end in LISTEN (R19, R97). -/
def listenFrame (s : State) (mark : Int) (bits : List Bool) (inError : Bool) : State :=
  if !(framePasses bits inError) then s
  else if bearsOwnNumber s.straps bits then s.changeState .halted .duplicate
  else
    match validBeacon s.straps bits with
    | some b => if s.aligns b then s.alignTo b mark bits else s
    | none => s

/-- A frame that was being received ends: judged by the station state; in DORMANT and HALTED nothing is
classified (R15, R19, R20). `wait` is what T must run before the line can be idle (R8). -/
def endFrame (s : State) (bits : List Bool) (inError : Bool) (wait : Nat) : State :=
  match s.link.reception with
  | none => s
  | some r =>
    let s1 := { s with link.reception := none, link.idleIn := wait }
    match s.sync.state with
    | .acquire | .track | .holdover | .leaving => s1.judgeFrame r.correctedMark bits inError
    | .listen => s1.listenFrame r.correctedMark bits inError
    | .dormant | .halted => s1

end State

/-- START_OF_FRAME: the marks are recorded, at the leading edge where this row stands (R8, R10; DESIGN CHOICE, log
25). While a frame is decoded or the own beacon is sent, the receiver looks for none (R8, R20), and after a frame that
ended in error it waits for idle first (R8). -/
def execStartOfFrame (s : State) : Host.Outcome State Fault Refusal :=
  .next (if s.running && s.link.reception.isNone && s.link.beacon.isNone && s.link.idleIn == 0 then
      { s with link.reception := some ⟨s.now, s.now - s.port.config.lineDelay⟩ }
    else s)

/-- FRAME_END, at the frame's end: the end of the last bit time read (R15, R19, R20, R199). The line is idle later
(R8; logs 25, 27). -/
def execFrameEnd (bits : List Bool) (inError : Bool) (s : State) : Host.Outcome State Fault Refusal :=
  .next (if s.running then s.endFrame bits inError (idleAfter bits inError) else s)

/-- RECEIVE_TIMEOUT: the frame ends in error, treated as failing its CRC. The line has not gone idle (R8; log 25). -/
def execReceiveTimeout (s : State) : Host.Outcome State Fault Refusal :=
  .next (if s.running then s.endFrame [] true 1 else s)

end Sys2Proof.Machine
end

