-- ==== Sys2Proof/Machine/Records.lean ====
section
/-!
DEFINITION. Records.lean: the records that read commands answer with (R41, R62, R88, R136, R137, R183, R184), and
the bytes of a response record on SDO (R201, R202, spec/10 10.5).
-/
namespace Sys2Proof.Machine
namespace State

/-! ## Records -/

/-- The READ TIME record (R41). -/
def timeRecord (s : State) : TimeRecord :=
  { stamp := s.stamp, trim := s.timebase.trim, slewLeft := s.timebase.slewLeft, state := s.sync.state }

/-- The status record (R183). -/
def statusRecord (s : State) : StatusRecord :=
  { state := s.sync.state
    lastCause := s.sync.lastCause
    haltCause := s.sync.haltCause
    memberCount := s.memberCount
    raised := s.raised
    mask := s.port.mask
    signalling := s.signalling
    enables := s.port.enables
    sticky := s.correction.sticky
    queueCount := s.capture.queue.length
    overflow := s.port.alerts.overflow
    startCause := s.port.startCause
    straps := s.straps
    windowCount := windowCount s.straps
    epochLength := s.epochLen
    frozen := s.port.frozen
    ownProposal := s.schedule.ownProposal
    nextTag := s.schedule.tagCounter
    holdLeft := s.sync.holdLeft
    holdLevel := s.port.holdLevel }

/-- A schedule entry as read (R136). -/
def entryRecord (s : State) (h : Nat) (e : Entry) : EntryRecord :=
  { handle := h
    kind := e.kind
    state := e.state
    nextFire := stampOf s.straps e.nextFire
    width := e.width
    lines := e.lines
    period := e.period
    initialRepeats := e.initialRepeats
    remaining := e.remaining
    fired := e.fired
    skipped := e.skipped
    reportFires := e.reportFires
    deadline := e.deadline.map (stampOf s.straps)
    heldFlag := e.heldFlag }

end State

/-- A peer entry as read: its epochs as their low 32 bits (R62). -/
def Peer.asRead (e : Peer) : Peer :=
  { e with
    lastHeard := e.lastHeard.map (· % 2 ^ 32)
    offer := e.offer.map (fun o => { o with targetEpoch := o.targetEpoch % 2 ^ 32 }) }

/-- A log record as read: its epoch as its low 32 bits (R88). -/
def LogRecord.asRead (r : LogRecord) : LogRecord := { r with epoch := r.epoch % 2 ^ 32 }

/-! ## Enumerated codes (10.5) -/

/-- Response code. -/
def ResponseCode.byte : ResponseCode → Byte
  | .ok => 0
  | .state => 1
  | .frozen => 2
  | .invalid => 3
  | .full => 4
  | .past => 5
  | .notFound => 6
  | .empty => 7
  | .busyProposal => 8
  | .held => 9
  | .notExcluded => 10
  | .unknown => 11

/-- Station state. -/
def StationState.byte : StationState → Byte
  | .dormant => 0
  | .listen => 1
  | .acquire => 2
  | .track => 3
  | .holdover => 4
  | .leaving => 5
  | .halted => 6

/-- Transition cause. -/
def Cause.byte : Cause → Byte
  | .start => 0
  | .strap => 1
  | .joined => 2
  | .aligned => 3
  | .founded => 4
  | .locked => 5
  | .unlocked => 6
  | .isolated => 7
  | .relocked => 8
  | .holdoverExpired => 9
  | .merge => 10
  | .leaveSecure => 11
  | .holdSecure => 12
  | .leaveFast => 13
  | .holdFast => 14
  | .left => 15
  | .duplicate => 16
  | .overdriven => 17

/-- Halt cause: 0 absent, otherwise its transition cause code. -/
def haltByte : Option HaltCause → Byte
  | none => 0
  | some .strap => Cause.strap.byte
  | some .duplicate => Cause.duplicate.byte
  | some .overdriven => Cause.overdriven.byte

/-- Start cause (R202). -/
def StartCause.byte : StartCause → Byte
  | .powerOn => 1
  | .pin => 2
  | .command => 3

/-- Peer entry state. -/
def PeerState.byte : PeerState → Byte
  | .absent => 0
  | .candidate => 1
  | .member => 2
  | .excluded => 3
  | .self => 4

/-- A reported sender state, by its station-state code. -/
def SenderState.byte : SenderState → Byte
  | .acquire => StationState.acquire.byte
  | .track => StationState.track.byte
  | .holdover => StationState.holdover.byte
  | .leaving => StationState.leaving.byte

/-- Action. -/
def Action.byte : Action → Byte
  | .step => 0
  | .slew => 1
  | .none => 2

/-- Class. -/
def ResultClass.byte : ResultClass → Byte
  | .negative => 0
  | .zero => 1
  | .positive => 2

/-! ## Numbers, sets and stamps as bytes (R201, R202) -/

/-- A byte of flags, bit 0 first in the list. -/
def flagByte (flags : List Bool) : Byte :=
  BitVec.ofNat 8 (flags.reverse.foldl (fun n b => 2 * n + b.toNat) 0)

/-- An unsigned number in 1 byte. -/
def num8 (n : Nat) : List Byte := [BitVec.ofNat 8 n]

/-- An unsigned number in 2 bytes. -/
def num16 (n : Nat) : List Byte := bytes16 (BitVec.ofNat 16 n)

/-- An unsigned number in 3 bytes. -/
def num24 (n : Nat) : List Byte := bytes24 (BitVec.ofNat 24 n)

/-- An unsigned number in 4 bytes. -/
def num32 (n : Nat) : List Byte := bytes32 (BitVec.ofNat 32 n)

/-- A signed number in 2 bytes, two's complement. -/
def int16 (n : Int) : List Byte := bytes16 (BitVec.ofInt 16 n)

/-- A signed number in 4 bytes, two's complement. -/
def int32 (n : Int) : List Byte := bytes32 (BitVec.ofInt 32 n)

/-- Epoch in 4 bytes, position in 3. -/
def stampBytes (t : Stamp) : List Byte := bytes32 t.epoch ++ num24 t.position

/-- An optional part: absent, it still occupies its bytes, which are 0 (R201). -/
def optBytes {α : Type} (width : Nat) (encode : α → List Byte) : Option α → List Byte
  | some x => encode x
  | none => List.replicate width 0

/-- A line set in 1 byte. -/
def lineByte (lines : LineSet) : List Byte := num8 lines.toNat

/-- Proposer and tag, each 1 byte; those of a LOCAL entry are 0 (10.5). -/
def kindBytes : EntryKind → List Byte
  | .shared name => num8 name.proposer ++ num8 name.tag
  | .localOnly => [0, 0]

/-- Whether an entry is SHARED. -/
def EntryKind.isShared : EntryKind → Bool
  | .shared _ => true
  | .localOnly => false

/-! ## OK bodies (10.5) -/

/-- The 31 bytes of READ ENTRY. -/
def entryBytes (e : EntryRecord) : List Byte :=
  num8 e.handle
    ++ [flagByte [e.kind.isShared, e.state == .armed, e.reportFires, e.heldFlag, e.deadline.isSome]]
    ++ kindBytes e.kind ++ stampBytes e.nextFire ++ num16 e.width ++ lineByte e.lines ++ num16 e.period
    ++ num16 e.initialRepeats ++ num16 e.remaining ++ num16 e.fired ++ num16 e.skipped
    ++ optBytes 7 stampBytes e.deadline

/-- The 15 bytes of a stored offer. -/
def offerBytes (o : Offer) : List Byte :=
  num8 o.tag ++ num32 o.targetEpoch ++ num24 o.targetPosition ++ num16 o.width ++ lineByte o.lines
    ++ num16 o.period ++ num16 o.repeats

/-- A held list: its count and four slots of a pair each, unused ones 0 (R201). -/
def heldBytes (held : List Pair) : List Byte :=
  num8 held.length
    ++ ((held.flatMap (fun (p : Pair) => num8 p.proposer ++ num8 p.tag)) ++ List.replicate 8 0).take 8

/-- The 44 bytes of READ PEER. -/
def peerBytes (e : Peer) : List Byte :=
  [e.state.byte,
   flagByte [e.currentLead.isSome, e.lastLead.isSome, e.lastHeard.isSome, e.reportedState.isSome,
     e.reportedView.isSome, e.offer.isSome]]
    ++ optBytes 2 int16 e.currentLead ++ optBytes 2 int16 e.lastLead ++ optBytes 4 num32 e.lastHeard
    ++ optBytes 1 (fun st => [st.byte]) e.reportedState ++ optBytes 4 bytes32 e.reportedView
    ++ heldBytes e.held ++ optBytes 15 offerBytes e.offer
    ++ num8 e.goodRun ++ num8 e.missRun ++ num8 e.frame ++ num8 e.outlier ++ num8 e.view

/-- The 18 bytes of READ LOG. -/
def logBytes (r : LogRecord) : List Byte :=
  num32 r.epoch ++ [r.state.byte] ++ num8 r.samples ++ num8 r.effectiveTrim ++ int16 r.correction
    ++ [r.action.byte] ++ int16 r.applied ++ int32 r.trimAfter ++ [r.flags.toByte, r.resultClass.byte]

/-- The 21 bytes of READ STATUS. -/
def statusBytes (r : StatusRecord) : List Byte :=
  [r.state.byte, r.lastCause.byte, haltByte r.haltCause] ++ num8 r.memberCount
    ++ [r.raised.toByte, r.mask.toByte, r.signalling.toByte, r.enables.toByte, r.sticky.toByte]
    ++ num8 r.queueCount
    ++ [flagByte [r.overflow, r.frozen, r.holdLeft, r.holdLevel, r.straps.auto, r.ownProposal.isSome],
        r.startCause.byte]
    ++ num8 r.straps.stn.toNat ++ num8 r.straps.win.toNat ++ num8 r.straps.epl.toNat
    ++ optBytes 1 num8 r.windowCount ++ num24 r.epochLength ++ optBytes 1 num8 r.ownProposal
    ++ num8 r.nextTag

/-- The 45 bytes of READ CONFIG. -/
def configBytes (c : ConfigStore) (frozen : Bool) : List Byte :=
  allParams.flatMap (fun p => num16 (c.get p)) ++ [flagByte [frozen]]

/-- The 14 bytes of READ TIME. -/
def timeBytes (r : TimeRecord) : List Byte :=
  stampBytes r.stamp ++ int32 r.trim ++ int16 r.slewLeft ++ [r.state.byte]

/-- An event record: its kind byte and its fields (10.5 Event bodies). -/
def eventFields : EventRecord → List Byte
  | .capture input edge stamp state =>
    [1] ++ num8 input ++ [match edge with | .rise => 0 | .fall => 1] ++ stampBytes stamp ++ [state.byte]
  | .fire handle kind scheduled late skipped =>
    [2] ++ num8 handle ++ [flagByte [kind.isShared, late]] ++ kindBytes kind ++ stampBytes scheduled
      ++ num16 skipped
  | .armed handle name target view =>
    [3] ++ num8 handle ++ num8 name.proposer ++ num8 name.tag ++ stampBytes target ++ bytes32 view
  | .abandoned handle name target reason missing =>
    [4] ++ num8 handle ++ num8 name.proposer ++ num8 name.tag ++ stampBytes target
      ++ [match reason with | .deadline => 0 | .state => 1] ++ bytes32 missing
  | .cancelled handle name state nextFire fired skipped remaining =>
    [5] ++ num8 handle ++ num8 name.proposer ++ num8 name.tag
      ++ [match state with | .pending => 0 | .armed => 1] ++ stampBytes nextFire
      ++ num16 fired ++ num16 skipped ++ num16 remaining

/-- The 18 bytes of an event record in POP EVENT: kind, fields, then zero bytes. -/
def eventBytes (r : EventRecord) : List Byte := (eventFields r ++ List.replicate 18 0).take 18

/-- The body of an OK record (10.5). -/
def bodyBytes : ResponseBody → List Byte
  | .nothing => []
  | .startCause cause => [cause.byte]
  | .status record => statusBytes record
  | .config store frozen => configBytes store frozen
  | .time record => timeBytes record
  | .entry record => entryBytes record
  | .listed count record => num8 count ++ entryBytes record
  | .peer entry => peerBytes entry
  | .log record => logBytes record
  | .event count record => num8 count ++ eventBytes record
  | .parameter ident value => [ident] ++ num16 value
  | .masks mask enables => [mask.toByte, enables.toByte]
  | .handle handle => num8 handle
  | .handleTag handle tag => num8 handle ++ num8 tag

/-- The bytes of a response record: the header, and the body when the code is OK (R202). -/
def responseBytes (r : Response) : List Byte :=
  [r.command, BitVec.ofNat 8 r.serial, r.code.byte] ++ (if r.code = .ok then bodyBytes r.body else [])

/-- The fill byte of SDO (R202). -/
def fillByte : Byte := 0xFF

end Sys2Proof.Machine
end

