-- ==== Sys2Proof/Machine/PortCommands.lean ====
section
/-!
DEFINITION. PortCommands.lean: transactions of the station port (R178 to R182), the read commands (R41, R62, R88,
R136, R137, R174, R183, R184), the alert commands (R190, R192) and CONFIGURE (R186).
-/
namespace Sys2Proof.Machine

/-- What a command does: the state it leaves, the response code, and the body of an OK answer. -/
structure Answer where
  after : State
  code : ResponseCode
  body : ResponseBody

/-- A command refused, or answered with anything but OK, changes nothing by itself (R181). -/
def refusal (s : State) (code : ResponseCode) : Answer := ⟨s, code, .nothing⟩

/-- A command answered OK. -/
def answerOk (after : State) (body : ResponseBody) : Answer := ⟨after, .ok, body⟩

namespace State

/-- A command taken at the rise of CSn: the serial goes up by 1, wrapping, and the holder takes the new record
whole; SDO has shifted out fill bytes, beyond the parameter bytes too (R178, R180, R202). -/
def respond (s : State) (command : Byte) (a : Answer) : State :=
  let serial := (s.port.serial + 1) % 256
  { a.after with
    port.serial := serial
    port.holder := ⟨command, serial, a.code, a.body⟩
    port.sdo := List.replicate (1 + paramBytes command) fillByte }

/-- The rise of CSn reaches the port: never during a start; the first rise after a start that ended with CSn
low ends a transaction that is ignored (R196, R198). What SDO carries in an ignored transaction once the start has
ended is the model's choice: nothing but fill (DESIGN CHOICE, log 23). -/
def transaction (s : State) (take : State → State) : State :=
  if !s.running then s
  else if s.port.awaitCsHigh then { s with port.awaitCsHigh := false, port.sdo := [] }
  else take s

/-- The level that SDO drives next, once the bits `sdi` of a transaction have been received; none is high-impedance:
while CSn is high, and during a start (R178, R196). In a response transaction it carries the record in the holder
from the second byte on, else and beyond fill (R178, R179, R202); in an ignored transaction fill (DESIGN CHOICE,
log 23). -/
def sdoLevel (s : State) (csnLow : Bool) (sdi : List Bool) : Option Bool :=
  if !s.running || !csnLow then none
  else if !s.port.awaitCsHigh && decide (8 ≤ sdi.length) && sdi.take 8 == byteBits 0x00 then
    some (((responseBytes s.port.holder).flatMap byteBits).getD (sdi.length - 8) true)
  else some true

/-- What SDO carried in the first `clocks` clocks of the last transaction that ended: the bytes that State holds, each
most significant bit first, and the bits of fill bytes for whatever was clocked beyond them (R178, R179, R202). What
it drives now is `sdoLevel`. -/
def sdoBits (s : State) (clocks : Nat) : List Bool :=
  (s.port.sdo.flatMap byteBits ++ List.replicate clocks true).take clocks

/-- A command transaction (R178, R180, R182). -/
def command (s : State) (code : Byte) (act : State → Answer) : State :=
  s.transaction (fun s => s.respond code (act s))

/-- A command that reads and changes no block (R182). -/
def readCommand (s : State) (code : Byte) (read : State → ResponseCode × ResponseBody) : State :=
  s.command code (fun s => ⟨s, (read s).1, (read s).2⟩)

end State

/-! ## Transactions that take no command (R178, R179) -/

/-- TRANSACTION_DISCARDED: no command is taken and the response holder is unchanged; SDO carried fill, in the bits
of a partial last byte too. -/
def execTransactionDiscarded (count : Nat) (s : State) : Host.Outcome State Fault Refusal :=
  .next (s.transaction fun s => { s with port.sdo := List.replicate count fillByte })

/-- RESPONSE: SDO shifts out, after the fill of the code byte, the record in the holder and then fill bytes, as
many as are clocked. The holder is unchanged. -/
def execResponse (count : Nat) (s : State) : Host.Outcome State Fault Refusal :=
  .next (s.transaction fun s =>
    { s with port.sdo :=
        fillByte :: (responseBytes s.port.holder ++ List.replicate count fillByte).take count })

/-- UNKNOWN_COMMAND: taken all the same, it answers UNKNOWN and acts on nothing else (R181). -/
def execUnknownCommand (code : Byte) (s : State) : Host.Outcome State Fault Refusal :=
  .next (s.command code fun s => refusal s .unknown)

/-! ## Read commands -/

/-- READ STATUS (R183). -/
def execReadStatus (s : State) : Host.Outcome State Fault Refusal :=
  .next (s.readCommand 0x10 fun s => (.ok, .status s.statusRecord))

/-- READ CONFIG (R184). -/
def execReadConfig (s : State) : Host.Outcome State Fault Refusal :=
  .next (s.readCommand 0x11 fun s => (.ok, .config s.port.config s.port.frozen))

/-- READ TIME (R41). -/
def execReadTime (s : State) : Host.Outcome State Fault Refusal :=
  .next (s.readCommand 0x12 fun s => (.ok, .time s.timeRecord))

namespace State

/-- What READ ENTRY answers (R136). -/
def readEntryAnswer (s : State) (handle : Byte) : ResponseCode × ResponseBody :=
  if 16 ≤ handle.toNat then (.invalid, .nothing)
  else match s.entry handle.toNat with
    | some e => (.ok, .entry (s.entryRecord handle.toNat e))
    | none => (.notFound, .nothing)

/-- What READ SCHEDULE answers (R137). -/
def readScheduleAnswer (s : State) (position : Byte) : ResponseCode × ResponseBody :=
  if 16 ≤ position.toNat then (.invalid, .nothing)
  else match s.entryList[position.toNat]? with
    | some (h, e) => (.ok, .listed s.entryList.length (s.entryRecord h e))
    | none => (.empty, .nothing)

/-- What READ PEER answers (R44, R62). -/
def readPeerAnswer (s : State) (station : Byte) : ResponseCode × ResponseBody :=
  match s.peer station.toNat with
  | some e => (.ok, .peer e.asRead)
  | none => (.invalid, .nothing)

/-- What READ LOG answers (R88). -/
def readLogAnswer (s : State) (age : Byte) : ResponseCode × ResponseBody :=
  if 16 ≤ age.toNat then (.invalid, .nothing)
  else match s.correction.log[age.toNat]? with
    | some r => (.ok, .log r.asRead)
    | none => (.empty, .nothing)

/-- What POP EVENT does (R174). -/
def popAnswer (s : State) : Answer :=
  match s.capture.queue with
  | r :: rest => answerOk { s with capture.queue := rest } (.event rest.length r)
  | [] => refusal s .empty

end State

/-- READ ENTRY (R136). -/
def execReadEntry (handle : Byte) (s : State) : Host.Outcome State Fault Refusal :=
  .next (s.readCommand 0x13 fun s => s.readEntryAnswer handle)

/-- READ SCHEDULE (R137). -/
def execReadSchedule (position : Byte) (s : State) : Host.Outcome State Fault Refusal :=
  .next (s.readCommand 0x14 fun s => s.readScheduleAnswer position)

/-- READ PEER (R62). -/
def execReadPeer (station : Byte) (s : State) : Host.Outcome State Fault Refusal :=
  .next (s.readCommand 0x15 fun s => s.readPeerAnswer station)

/-- READ LOG (R88). -/
def execReadLog (age : Byte) (s : State) : Host.Outcome State Fault Refusal :=
  .next (s.readCommand 0x16 fun s => s.readLogAnswer age)

/-- POP EVENT (R174). -/
def execPopEvent (s : State) : Host.Outcome State Fault Refusal :=
  .next (s.command 0x17 State.popAnswer)

/-! ## Configuration and alerts -/

namespace State

/-- The store takes a parameter's new value; a new line delay is the one that a frame being received will use,
so the corrected mark kept with it follows (R10, R186; log 13). -/
def configureParam (s : State) (p : Param) (value : Nat) : State :=
  let s1 := { s with port.config := s.port.config.set p value }
  { s1 with link.reception :=
      s1.link.reception.map (fun r => ⟨r.timingMark, r.timingMark - s1.port.config.lineDelay⟩) }

/-- What CONFIGURE does, its checks in order (R186). -/
def configureAnswer (s : State) (ident : Byte) (value : Nat) : Answer :=
  match paramOf ident with
  | none => refusal s .invalid
  | some p =>
    if !(p.names value) then refusal s .invalid
    else if s.port.frozen then refusal s .frozen
    else if s.sync.state ≠ .dormant then refusal s .state
    else if !(p.accepts value) then refusal s .invalid
    else answerOk (s.configureParam p value) (.parameter ident value)

/-- What SET ALERT MASK does (R190). -/
def maskAnswer (s : State) (mask enables : Byte) : Answer :=
  match alertSetOf mask, corrFlagsOf enables with
  | some m, some c => answerOk { s with port.mask := m, port.enables := c } (.masks m c)
  | some _, none => refusal s .invalid
  | none, some _ => refusal s .invalid
  | none, none => refusal s .invalid

/-- What CLEAR does: EVENT goes on following the queue, so naming it lowers nothing (R175, R192). -/
def clearAnswer (s : State) (alertFlags corrFlags : Byte) : Answer :=
  match alertSetOf alertFlags, corrFlagsOf corrFlags with
  | some a, some c =>
    answerOk { s with
      port.alerts := s.port.alerts.minus a
      correction.sticky := s.correction.sticky.minus c } .nothing
  | some _, none => refusal s .invalid
  | none, some _ => refusal s .invalid
  | none, none => refusal s .invalid

end State

/-- CONFIGURE (R186). -/
def execConfigure (ident : Byte) (value : BitVec 16) (s : State) : Host.Outcome State Fault Refusal :=
  .next (s.command 0x20 fun s => s.configureAnswer ident value.toNat)

/-- SET ALERT MASK (R190). -/
def execSetAlertMask (mask enables : Byte) (s : State) : Host.Outcome State Fault Refusal :=
  .next (s.command 0x21 fun s => s.maskAnswer mask enables)

/-- CLEAR (R192). -/
def execClear (alertFlags corrFlags : Byte) (s : State) : Host.Outcome State Fault Refusal :=
  .next (s.command 0x22 fun s => s.clearAnswer alertFlags corrFlags)

end Sys2Proof.Machine
end

