-- ==== Sys2Proof/Machine/StationCommands.lean ====
section
/-!
DEFINITION. StationCommands.lean: JOIN (R94), LEAVE (R108, R110), RELEASE (R61), the HOLD pin (R112 to R114), the
capture inputs (R167 to R169), and the starts (R195 to R198) with RESTART.
-/
namespace Sys2Proof.Machine
namespace State

/-! ## Joining and leaving -/

/-- What JOIN does (R94, R95). -/
def joinAnswer (s : State) : Answer :=
  match s.joinRefusal with
  | some code => refusal s code
  | none => answerOk s.acceptJoin .nothing

/-- The hold-left marker is cleared. -/
def dropMarker (s : State) : State := { s with sync.holdLeft := false }

/-- The state change of a secure leave (R108, R113). -/
def leaveSecurely (s : State) (cause : Cause) : State :=
  match s.sync.state with
  | .acquire | .track | .holdover => s.changeState .leaving cause
  | .listen => s.changeState .dormant cause
  | .leaving | .dormant | .halted => s

/-- The state change of a fast leave (R110, R113). -/
def leaveFast (s : State) (cause : Cause) : State :=
  match s.sync.state with
  | .listen | .acquire | .track | .holdover | .leaving => s.changeState .dormant cause
  | .dormant | .halted => s

/-- What LEAVE(SECURE) does; a mode byte that names no mode answers INVALID before any other check (R108,
R181). -/
def leaveSecureAnswer (s : State) (mode : Byte) : Answer :=
  if mode ≠ 1 then refusal s .invalid
  else if s.sync.state = .halted then refusal s .state
  else answerOk (s.dropMarker.leaveSecurely .leaveSecure) .nothing

/-- What LEAVE(FAST) does (R110). -/
def leaveFastAnswer (s : State) : Answer :=
  if s.sync.state = .halted then refusal s .state
  else answerOk (s.dropMarker.leaveFast .leaveFast) .nothing

/-- What RELEASE does (R61). -/
def releaseAnswer (s : State) (station : Nat) : Answer :=
  match s.peer station with
  | none => refusal s .invalid
  | some e =>
    if e.state = .excluded then answerOk (s.updatePeer station e e.afterRelease) .nothing
    else refusal s .notExcluded

end State

/-- JOIN (R94, R95). -/
def execJoin (s : State) : Host.Outcome State Fault Refusal :=
  .next (s.command 0x30 State.joinAnswer)

/-- LEAVE with a mode other than FAST (R108, R181). -/
def execLeaveSecure (mode : Byte) (s : State) : Host.Outcome State Fault Refusal :=
  .next (s.command 0x31 fun s => s.leaveSecureAnswer mode)

/-- LEAVE(FAST) (R110). -/
def execLeaveFast (s : State) : Host.Outcome State Fault Refusal :=
  .next (s.command 0x31 State.leaveFastAnswer)

/-- RELEASE (R61). -/
def execRelease (station : Byte) (s : State) : Host.Outcome State Fault Refusal :=
  .next (s.command 0x50 fun s => s.releaseAnswer station.toNat)

/-! ## The HOLD pin -/

namespace State

/-- An assertion at the sync controller, by reaction and station state (R113). -/
def holdAsserted (s : State) : State :=
  match s.port.config.holdReaction with
  | .none => s
  | .secure =>
    match s.sync.state with
    | .listen | .acquire | .track | .holdover =>
      { s with sync.holdLeft := true }.leaveSecurely .holdSecure
    | .leaving | .dormant | .halted => s
  | .fast =>
    match s.sync.state with
    | .listen | .acquire | .track | .holdover => { s with sync.holdLeft := true }.leaveFast .holdFast
    | .leaving => s.leaveFast .holdFast
    | .dormant | .halted => s

/-- A release at the sync controller (R114). -/
def holdReleased (s : State) : State :=
  if s.port.config.holdReaction ≠ .none ∧ s.sync.state = .dormant ∧ s.sync.holdLeft then s.joinUnasked else s

end State

/-- HOLD_ASSERTION: a change from low to high (R112, R113, R194). -/
def execHoldAssertion (s : State) : Host.Outcome State Fault Refusal :=
  .next (if s.running && !s.port.holdLevel then { s with port.holdLevel := true }.holdAsserted else s)

/-- HOLD_RELEASE: a change from high to low (R112, R114, R194). -/
def execHoldRelease (s : State) : Host.Outcome State Fault Refusal :=
  .next (if s.running && s.port.holdLevel then { s with port.holdLevel := false }.holdReleased else s)

/-! ## The capture inputs -/

/-- Whether an edge selection admits an edge (R167). -/
def EdgeSelection.selects : EdgeSelection → Edge → Bool
  | .off, _ => false
  | .rise, .rise => true
  | .rise, .fall => false
  | .fall, .rise => false
  | .fall, .fall => true
  | .both, _ => true

/-- Whether a selected edge at t passes the hold-off of 1 us (R168). -/
def CaptureInput.passes (c : CaptureInput) (t : Nat) : Bool :=
  match c.holdoffStart with
  | none => true
  | some start => decide (t < start ∨ start + 1000 ≤ t)

namespace State

/-- One capture input. -/
def captureInput (s : State) (input : Fin 2) : CaptureInput := if input = 0 then s.capture.cap0 else s.capture.cap1

/-- Replace one capture input. -/
def setCapture (s : State) (input : Fin 2) (c : CaptureInput) : State :=
  if input = 0 then { s with capture.cap0 := c } else { s with capture.cap1 := c }

/-- The level of an input changes: the edge sets the level, and when selected and past the hold-off it is a
capture (R167, R168, R169). -/
def captureEdge (s : State) (input : Fin 2) : State :=
  let c := s.captureInput input
  let edge : Edge := if c.level then .fall else .rise
  let leveled : CaptureInput := { c with level := !c.level }
  if (s.port.config.edge input).selects edge && c.passes s.now then
    (s.setCapture input { leveled with holdoffStart := some s.now }).post
      (.capture input edge s.stamp s.sync.state)
  else s.setCapture input leveled

end State

/-- CAP_EDGE (R167). -/
def execCapEdge (input : Fin 2) (s : State) : Host.Outcome State Fault Refusal :=
  .next (if s.running then s.captureEdge input else s)

/-! ## Starts -/

/-- What a PIN or COMMAND start keeps of an entry: exclusion and penalties (R67). -/
def Peer.afterStart (e : Peer) : Peer :=
  match e.state with
  | .excluded => { Peer.fresh with state := .excluded, frame := e.frame, outlier := e.outlier, view := e.view }
  | .absent | .candidate | .member =>
    { Peer.fresh with frame := e.frame, outlier := e.outlier, view := e.view }
  | .self => Peer.fresh

/-- The peer table that a start forms (R44, R66, R67). -/
def peersAfterStart (cause : StartCause) (straps : Straps) (old : List Peer) : List Peer :=
  (List.range (tableSize straps)).map fun j =>
    if j = ownNumber straps then Peer.own
    else if cause = .powerOn ∨ !strapsValid straps then Peer.fresh
    else match old[j]? with
      | some e => e.afterStart
      | none => Peer.fresh

namespace State

/-- Every block at its start values, the straps and initial levels sampled (R195, R198). -/
def startValues (s : State) (cause : StartCause) (pins : Pins) (csnLow : Bool) : State :=
  { timebase := Timebase.start
    link := Link.start
    peers := peersAfterStart cause pins.straps s.peers
    correction := CorrectionUnit.start
    sync := Sync.start
    schedule := Schedule.start
    capture := Capture.start pins.cap0 pins.cap1
    port := Port.start cause pins csnLow
    pending := s.pending }

/-- The strap check and the automatic JOIN (R92, R93). -/
def strapCheck (s : State) : State :=
  if !(strapsValid s.straps) then s.changeState .halted .strap
  else if s.straps.auto then s.joinUnasked
  else s

/-- A start ends: start values, then the strap check (R195). -/
def finishStart (s : State) (cause : StartCause) (pins : Pins) (csnLow : Bool) : State :=
  (s.startValues cause pins csnLow).strapCheck

/-- A power-on or RESETn start begins: a beacon in progress and pulses are cut off at once, nothing is received
any longer, the schedule is emptied, and T is held at 0 (R25, R139, R196). -/
def beginStart (s : State) (cause : StartCause) : State :=
  { s with
    port.starting := some cause
    link.beacon := none
    link.reception := none
    schedule := Schedule.start
    timebase.time := 0 }

end State

/-- POWER_ON (R195, R196). -/
def execPowerOn (s : State) : Host.Outcome State Fault Refusal := .next (s.beginStart .powerOn)

/-- RESETN_FALL: a pin start, or a power-on start in progress that stays one (R195, R196). -/
def execResetnFall (s : State) : Host.Outcome State Fault Refusal :=
  .next (s.beginStart (match s.port.starting with | some cause => cause | none => .pin))

/-- START_END: nothing ends while no start is in progress (R195; log 6). -/
def execStartEnd (pins : Pins) (csnLow : Bool) (s : State) : Host.Outcome State Fault Refusal :=
  .next (match s.port.starting with
    | some cause => s.finishStart cause pins csnLow
    | none => s)

/-- RESTART: a start that ends at once, with cause COMMAND; its answer is the start record, and CSn, whose rise
took the command, is high. SDO has shifted out fill in its transaction (R178, R195, R197). -/
def execRestart (pins : Pins) (s : State) : Host.Outcome State Fault Refusal :=
  .next (s.transaction fun s =>
    { s.finishStart .command pins false with port.sdo := List.replicate (1 + paramBytes 0x32) fillByte })

end Sys2Proof.Machine
end

