-- ==== Sys2Proof/Machine/TriggerCommands.lean ====
section
/-!
DEFINITION. TriggerCommands.lean: SCHEDULE (R121, R122), PROPOSE (R142 to R144) and CANCEL (R133, R135, R161).
-/
namespace Sys2Proof.Machine
namespace State

/-! ## SCHEDULE -/

/-- The target time that a command gives: its epoch resolved against the current epoch (R40, R121, R142). -/
def targetEpochOf (s : State) (p : TriggerParams) : Nat := resolveEpoch p.targetEpoch.toNat s.currentEpoch

/-- The target time of a command (R121, R142). -/
def targetTime (s : State) (p : TriggerParams) : Nat := s.targetEpochOf p * s.epochLen + p.targetPosition.toNat

/-- The LOCAL entry that SCHEDULE makes (R119). -/
def newLocal (s : State) (p : TriggerParams) (lines : LineSet) (reportFires : Bool) : Entry :=
  { kind := .localOnly, state := .armed, nextFire := s.targetTime p, width := p.width.toNat, lines := lines,
    period := p.period.toNat, initialRepeats := p.repeats.toNat, remaining := p.repeats.toNat, fired := 0,
    skipped := 0, reportFires := reportFires, deadline := none, heldFlag := false }

/-- What SCHEDULE does, its checks in order (R121, R181). -/
def scheduleAnswer (s : State) (p : TriggerParams) (options : Byte) : Answer :=
  match lineSetOf p.lines, reportFiresOf options with
  | some lines, some report =>
    if s.sync.state = .halted then refusal s .state
    else if !(triggerRangesHold s.epochLen p lines) then refusal s .invalid
    else if s.targetTime p ≤ s.now then refusal s .past
    else match s.freeSlot with
      | none => refusal s .full
      | some h => answerOk (s.setSlot h (some (s.newLocal p lines report))) (.handle h)
  | some _, none => refusal s .invalid
  | none, some _ => refusal s .invalid
  | none, none => refusal s .invalid

/-! ## PROPOSE -/

/-- Whether a tag is free for a new proposal (R143). -/
def tagFree (s : State) (tag : Nat) : Bool :=
  !(s.holdsPair ⟨s.own, tag⟩) && s.peers.all (fun e => !(e.held.contains ⟨s.own, tag⟩))

end State

/-- The value after a tag in the cyclic order 1, 2, ..., 255, 1 (R143). -/
def tagAfter (tag : Nat) : Nat := if tag = 255 then 1 else tag + 1

namespace State

/-- The first free tag from one on, of at most `fuel` tried (R143). -/
def drawTagFrom (s : State) : Nat → Nat → Nat
  | 0, tag => tag
  | fuel + 1, tag => if s.tagFree tag then tag else s.drawTagFrom fuel (tagAfter tag)

/-- The tag that an accepted PROPOSE draws (R143). -/
def drawTag (s : State) : Nat := s.drawTagFrom 255 s.schedule.tagCounter

/-- The effects of an accepted PROPOSE in a free slot: the entry, the own proposal, the counter, and the
evaluation of the new entry's arming (R143, R144, R151). -/
def makeProposal (s : State) (h : Nat) (p : TriggerParams) (lines : LineSet) : State :=
  let tag := s.drawTag
  let e := s.newShared ⟨s.own, tag⟩ (s.targetTime p) p.width.toNat lines p.period.toNat p.repeats.toNat
  let s1 := s.setSlot h (some e)
  { s1 with schedule.ownProposal := some h, schedule.tagCounter := tagAfter tag }.evaluateSlot h

/-- What PROPOSE does, its checks in order (R142, R181). -/
def proposeAnswer (s : State) (p : TriggerParams) : Answer :=
  match lineSetOf p.lines with
  | none => refusal s .invalid
  | some lines =>
    if s.sync.state ≠ .track then refusal s .state
    else if s.schedule.ownProposal.isSome then refusal s .busyProposal
    else match s.freeSlot with
      | none => refusal s .full
      | some h =>
        if 4 ≤ s.heldCount then refusal s .full
        else if s.targetEpochOf p < s.currentEpoch + 8 ∨ s.currentEpoch + 65535 < s.targetEpochOf p then
          refusal s .invalid
        else if !(triggerRangesHold s.epochLen p lines) then refusal s .invalid
        else answerOk (s.makeProposal h p lines) (.handleTag h s.drawTag)

/-! ## CANCEL -/

/-- The declined list with a record at the newest place: a record of the same pair is replaced, and the oldest
of four makes room (R161). -/
def addDeclined (s : State) (d : Declined) : State :=
  let others := s.schedule.declined.filter (fun r => r.name != d.name)
  let kept := if 4 ≤ others.length then others.drop 1 else others
  { s with schedule.declined := kept ++ [d] }

/-- What a CANCEL leaves behind of another station's held entry: a declined record, unless its expiry is not
after T (R161). -/
def declineCancelled (s : State) (name : Pair) (e : Entry) : State :=
  let expiry := e.nextFire - 2 * s.epochLen
  if name.proposer ≠ s.own ∧ e.heldFlag ∧ s.now < expiry then s.addDeclined ⟨name, expiry⟩ else s

/-- An entry is cancelled (R133, R135, R159, R161). -/
def cancelEntry (s : State) (h : Nat) (e : Entry) : State :=
  let s1 := s.setSlot h none
  match e.kind with
  | .localOnly => s1
  | .shared name =>
    ((s1.endProposal h).declineCancelled name e).post
      (.cancelled h name e.state (stampOf s.straps e.nextFire) e.fired e.skipped e.remaining)

/-- What CANCEL does (R133). -/
def cancelAnswer (s : State) (handle : Byte) : Answer :=
  if 16 ≤ handle.toNat then refusal s .invalid
  else match s.entry handle.toNat with
    | some e => answerOk (s.cancelEntry handle.toNat e) .nothing
    | none => refusal s .notFound

end State

/-- SCHEDULE (R121). -/
def execSchedule (p : TriggerParams) (options : Byte) (s : State) : Host.Outcome State Fault Refusal :=
  .next (s.command 0x40 fun s => s.scheduleAnswer p options)

/-- PROPOSE (R142). -/
def execPropose (p : TriggerParams) (s : State) : Host.Outcome State Fault Refusal :=
  .next (s.command 0x41 fun s => s.proposeAnswer p)

/-- CANCEL (R133). -/
def execCancel (handle : Byte) (s : State) : Host.Outcome State Fault Refusal :=
  .next (s.command 0x42 fun s => s.cancelAnswer handle)

end Sys2Proof.Machine
end

