-- ==== Sys2Proof/Machine/Dispatch.lean ====
section
/-!
DEFINITION. Dispatch.lean: one arm per command, each one call of its meaning.
-/
namespace Sys2Proof.Machine

def exec (i : Instr) (s : State) : Host.Outcome State Fault Refusal :=
  match i with
  | .readStatus => Sys2Proof.Machine.execReadStatus s
  | .readConfig => Sys2Proof.Machine.execReadConfig s
  | .readTime => Sys2Proof.Machine.execReadTime s
  | .readEntry handle => Sys2Proof.Machine.execReadEntry handle s
  | .readSchedule position => Sys2Proof.Machine.execReadSchedule position s
  | .readPeer station => Sys2Proof.Machine.execReadPeer station s
  | .readLog age => Sys2Proof.Machine.execReadLog age s
  | .popEvent => Sys2Proof.Machine.execPopEvent s
  | .configure ident value => Sys2Proof.Machine.execConfigure ident value s
  | .setAlertMask mask enables => Sys2Proof.Machine.execSetAlertMask mask enables s
  | .clear alertFlags corrFlags => Sys2Proof.Machine.execClear alertFlags corrFlags s
  | .join => Sys2Proof.Machine.execJoin s
  | .leaveSecure mode => Sys2Proof.Machine.execLeaveSecure mode s
  | .leaveFast => Sys2Proof.Machine.execLeaveFast s
  | .restart pins => Sys2Proof.Machine.execRestart pins s
  | .schedule params options => Sys2Proof.Machine.execSchedule params options s
  | .propose params => Sys2Proof.Machine.execPropose params s
  | .cancel handle => Sys2Proof.Machine.execCancel handle s
  | .release station => Sys2Proof.Machine.execRelease station s
  | .response count => Sys2Proof.Machine.execResponse count s
  | .unknownCommand code => Sys2Proof.Machine.execUnknownCommand code s
  | .transactionDiscarded count => Sys2Proof.Machine.execTransactionDiscarded count s
  | .powerOn => Sys2Proof.Machine.execPowerOn s
  | .resetnFall => Sys2Proof.Machine.execResetnFall s
  | .startEnd pins csnLow => Sys2Proof.Machine.execStartEnd pins csnLow s
  | .holdAssertion => Sys2Proof.Machine.execHoldAssertion s
  | .holdRelease => Sys2Proof.Machine.execHoldRelease s
  | .capEdge input => Sys2Proof.Machine.execCapEdge input s
  | .frameEnd bits inError => Sys2Proof.Machine.execFrameEnd bits inError s
  | .receiveTimeout => Sys2Proof.Machine.execReceiveTimeout s
  | .overdrive => Sys2Proof.Machine.execOverdrive s
  | .beaconSentWhole => Sys2Proof.Machine.execBeaconSentWhole s
  | .ownSendInstant => Sys2Proof.Machine.execOwnSendInstant s
  | .windowClose => Sys2Proof.Machine.execWindowClose s
  | .epochClose => Sys2Proof.Machine.execEpochClose s
  | .slewPoint => Sys2Proof.Machine.execSlewPoint s
  | .triggerFire handle => Sys2Proof.Machine.execTriggerFire handle s
  | .sharedDeadline handle => Sys2Proof.Machine.execSharedDeadline handle s
  | .listenDeadline => Sys2Proof.Machine.execListenDeadline s
  | .declinedExpiry => Sys2Proof.Machine.execDeclinedExpiry s
  | .pulseEnd line => Sys2Proof.Machine.execPulseEnd line s
  | .startOfFrame => Sys2Proof.Machine.execStartOfFrame s
  | .referencePeriod stop => Sys2Proof.Machine.execReferencePeriod stop s

end Sys2Proof.Machine
end

