-- ==== Sys2Proof/Safety.lean ====
section
/-!
DEFINITION. Safety.lean: the words that statements are made in. Kinds of command, when a transaction is taken and
what its answer leaves, where T stands, and the invariants that every step keeps.
-/
namespace Sys2Proof.Machine

/-! ## Kinds of command -/

/-- A row that is a transaction of the station port (chapter 9.1). -/
def isTransaction : Instr → Bool
  | .readStatus | .readConfig | .readTime | .readEntry _ | .readSchedule _ | .readPeer _ | .readLog _
  | .popEvent | .configure _ _ | .setAlertMask _ _ | .clear _ _ | .join | .leaveSecure _ | .leaveFast
  | .restart _ | .schedule _ _ | .propose _ | .cancel _ | .release _ | .response _ | .unknownCommand _
  | .transactionDiscarded _ => true
  | .powerOn | .resetnFall | .startEnd _ _ | .holdAssertion | .holdRelease | .capEdge _ | .frameEnd _ _
  | .receiveTimeout | .overdrive | .beaconSentWhole | .ownSendInstant | .windowClose | .epochClose
  | .slewPoint | .triggerFire _ | .sharedDeadline _ | .listenDeadline | .declinedExpiry | .pulseEnd _
  | .startOfFrame | .referencePeriod _ => false

/-- A row that begins or ends a power-on or RESETn start (R195). -/
def isStartRow : Instr → Bool
  | .powerOn | .resetnFall | .startEnd _ _ => true
  | .readStatus | .readConfig | .readTime | .readEntry _ | .readSchedule _ | .readPeer _ | .readLog _
  | .popEvent | .configure _ _ | .setAlertMask _ _ | .clear _ _ | .join | .leaveSecure _ | .leaveFast
  | .restart _ | .schedule _ _ | .propose _ | .cancel _ | .release _ | .response _ | .unknownCommand _
  | .transactionDiscarded _ | .holdAssertion | .holdRelease | .capEdge _ | .frameEnd _ _ | .receiveTimeout
  | .overdrive | .beaconSentWhole | .ownSendInstant | .windowClose | .epochClose | .slewPoint
  | .triggerFire _ | .sharedDeadline _ | .listenDeadline | .declinedExpiry | .pulseEnd _ | .startOfFrame
  | .referencePeriod _ => false

/-- RESTART. -/
def isRestart : Instr → Bool
  | .restart _ => true
  | _ => false

/-- A row in which T runs: it can take several instants (R28, R32; logs 3 and 8). -/
def runsTime : Instr → Bool
  | .referencePeriod _ | .slewPoint => true
  | _ => false

/-! ## The station port -/

namespace State

/-- No start is in progress, and CSn has been high since the last one: a transaction is taken (R196, R198). -/
abbrev takes (s : State) : Bool := s.port.starting == none && !s.port.awaitCsHigh

/-- The state after the port has answered a command whose code byte and parameter bytes number 1 + `params`: the
serial one up, the holder with the new record, and SDO with fill bytes, every bit 1 (R178, R180, R202). -/
def answered (s : State) (command : Byte) (params : Nat) (code : ResponseCode) (body : ResponseBody) : State :=
  { s with
    port.serial := (s.port.serial + 1) % 256
    port.holder := ⟨command, (s.port.serial + 1) % 256, code, body⟩
    port.sdo := List.replicate (1 + params) 0xFF }

/-- The state after a command was answered with a code other than OK: nothing but the answer (R181). -/
def declined (s : State) (command : Byte) (params : Nat) (code : ResponseCode) : State :=
  s.answered command params code .nothing

/-! ## Where T stands -/

/-- T stands at the send instant of window j, not yet taken (R2, R3). -/
def atSendInstant (s : State) (j : Nat) : Prop :=
  ∃ n, s.now = n * epochLength s.straps + j * windowLength s.straps + guardTime s.straps ∧
    j < windows s.straps ∧ s.link.seqMark < s.now

/-- T stands at the close of window j, not yet taken (R2, R3). -/
def atWindowClose (s : State) (j : Nat) : Prop :=
  ∃ n, s.now = n * epochLength s.straps + j * windowLength s.straps + 7 * guardTime s.straps ∧
    j < windows s.straps ∧ s.link.seqMark < s.now

/-- T stands at an epoch close, not yet taken (R2, R3). -/
def atEpochClose (s : State) : Prop := ∃ n, s.now = (n + 1) * epochLength s.straps ∧ s.link.seqMark < s.now

/-- A mark lies in the acceptance interval of window j of the window epoch (R2). -/
abbrev markInInterval (s : State) (j : Nat) (mark : Int) : Prop :=
  j < windows s.straps ∧
    ((s.timebase.high / epochLength s.straps * epochLength s.straps + j * windowLength s.straps : Nat) : Int) ≤ mark ∧
    mark ≤ ((s.timebase.high / epochLength s.straps * epochLength s.straps + j * windowLength s.straps
      + 2 * guardTime s.straps : Nat) : Int)

/-- The slot holds this entry. -/
abbrev holds (s : State) (h : Nat) (e : Entry) : Prop := s.schedule.slots[h]? = some (some e)

/-- The slot is the lowest free one (R118). -/
abbrev isLowestFree (s : State) (h : Nat) : Prop :=
  h < 16 ∧ s.schedule.slots[h]? = some none ∧ ∀ j, j < h → s.schedule.slots[j]? ≠ some none

/-- The SHARED entry of this name stands PENDING in the slot. -/
abbrev holdsPending (s : State) (h : Nat) (name : Pair) (e : Entry) : Prop :=
  s.holds h e ∧ e.kind = .shared name ∧ e.state = .pending

/-- The entry of station m is MEMBER. -/
def memberAt (s : State) (m : Nat) : Prop := ∃ e, s.peers[m]? = some e ∧ e.state = .member

/-- The arming condition (R150): the proposer is the own station or a MEMBER, and every MEMBER holds the pair. -/
def evidenceFor (s : State) (name : Pair) : Prop :=
  (name.proposer = ownNumber s.straps ∨ s.memberAt name.proposer) ∧
    ∀ e ∈ s.peers, e.state = .member → name ∈ e.held

/-- No instant but a slew point stands at T untaken (R3, R99, R123, R124, R156, R161). -/
def onlySlewStands (s : State) : Prop :=
  (s.link.seqMark < s.now → windowInstantAt s.straps s.now = none) ∧
    (∀ (h : Nat) (e : Entry), s.holds h e → (e.state = .armed → e.nextFire ≠ s.now) ∧
      (e.state = .pending → e.deadline ≠ some s.now)) ∧
    (∀ d ∈ s.schedule.declined, d.expiry ≠ s.now) ∧
    (s.sync.state = .listen → s.sync.listenDeadline ≠ some s.now) ∧
    (∀ l ∈ s.schedule.lines, l.remaining = 0 → l.active = false)

/-- The merge test calls for a merge: more foreign stations than the own group has, or as many with a lower lowest
number (R106). -/
def mergeCalls (s : State) : Prop :=
  ∃ low, low < 32 ∧ inSet s.sync.foreign low = true ∧ (∀ j, j < low → inSet s.sync.foreign j = false) ∧
    (s.peers.countP (fun e => e.state == .member) + 1 < cardinality s.sync.foreign ∨
      (cardinality s.sync.foreign = s.peers.countP (fun e => e.state == .member) + 1 ∧
        low < ownNumber s.straps ∧ ∀ j, j < 32 → s.memberAt j → low < j))

/-- The cross-checks of JOIN (R94). -/
abbrev boundsFit (s : State) : Prop :=
  s.port.config.lockWindow ≤ s.port.config.unlockBound ∧ s.port.config.unlockBound ≤ guardTime s.straps ∧
    s.port.config.lockWindow ≤ s.port.config.stepThreshold ∧ s.port.config.stepThreshold ≤ guardTime s.straps ∧
    s.port.config.admitBound ≤ guardTime s.straps ∧ s.port.config.outlierBound ≤ guardTime s.straps

/-- HOLD stands in the way of a JOIN (R94). -/
abbrev holdBars (s : State) : Prop := s.port.holdLevel = true ∧ s.port.config.holdReaction ≠ .none

/-- The listen deadline that a JOIN or a merge taken at this T sets: T + 4E + kL (R95, R107). -/
abbrev listenUntil (s : State) : Nat :=
  s.now + 4 * epochLength s.straps + ownNumber s.straps * windowLength s.straps

/-- The target time of a trigger command (R40, R121, R142). -/
abbrev targetOf (s : State) (p : TriggerParams) : Nat :=
  resolveEpoch p.targetEpoch.toNat (s.now / epochLength s.straps) * epochLength s.straps + p.targetPosition.toNat

/-- The parameters of a trigger command lie in their ranges (R121, R142). -/
abbrev paramsInRange (s : State) (p : TriggerParams) : Prop :=
  p.targetPosition.toNat < epochLength s.straps ∧ (1 ≤ p.width.toNat ∧ p.width.toNat ≤ 4095) ∧ p.lines ≠ 0 ∧
    p.period.toNat ≤ 4095 ∧ (1 ≤ p.repeats.toNat ∧ p.repeats.toNat ≤ 4095) ∧ (p.period = 0 → p.repeats = 1)

/-- A transmitting state (R7). -/
abbrev transmitting (s : State) : Bool := s.sync.state.transmits

/-! ## What is left as it stands -/

/-- An entry of the peer table after the clearing of R65: penalties, exclusion and SELF outlast it. -/
def clearedEntry (e : Peer) : Peer :=
  if e.state = .self then e
  else { Peer.fresh with
          state := if e.state = .excluded then .excluded else .absent
          frame := e.frame
          outlier := e.outlier
          view := e.view }

/-- An evaluation of arming at a slot: a PENDING entry stands ARMED where the evidence of t is there, and any other
slot as it did (R151, R153). -/
def armsOnEvidence (s t : State) (h : Nat) : Prop :=
  (∀ name e, h < 16 → s.holdsPending h name e → t.evidenceFor name →
    t.schedule.slots[h]? = some (some { e with state := .armed, deadline := none })) ∧
  (16 ≤ h ∨ (∀ name e, s.holdsPending h name e → ¬ t.evidenceFor name) →
    t.schedule.slots[h]? = s.schedule.slots[h]?)

/-- What an event at the peer table leaves as it stands beside the schedule's slots: the capture inputs, the records
posted before, the pulses, the declined list, the tag counter and the CORRECTION flag. -/
def sameBeside (s t : State) : Prop :=
  t.capture.cap0 = s.capture.cap0 ∧ t.capture.cap1 = s.capture.cap1 ∧ s.capture.queue <+: t.capture.queue ∧
    t.schedule.lines = s.schedule.lines ∧ t.schedule.declined = s.schedule.declined ∧
    t.schedule.tagCounter = s.schedule.tagCounter ∧ t.port.alerts.correction = s.port.alerts.correction

/-- The trigger schedule, the capture unit and the overflow flag stand as they do in u. -/
def sameScheduleAs (t u : State) : Prop :=
  t.schedule = u.schedule ∧ t.capture = u.capture ∧ t.port.alerts.overflow = u.port.alerts.overflow

/-! ## Records that one event posts -/

/-- The state with these records posted one after another: what a full queue cannot take is discarded, and sets the
overflow flag (R172). -/
def withRecords (s : State) (records : List EventRecord) : State :=
  { s with
    capture.queue := (s.capture.queue ++ records).take 16
    port.alerts.overflow :=
      s.port.alerts.overflow || decide (16 < s.capture.queue.length + records.length) }

/-- The PENDING SHARED entries by handle, each with its name, in ascending order of handle. -/
def pendings (s : State) : List (Nat × Pair × Entry) :=
  (List.range 16).filterMap (fun h => (s.pendingEntry h).map (fun p => (h, p)))

/-- The ARMED records of an evaluation of every PENDING entry (R151, R153). -/
def armedRecords (s : State) : List EventRecord :=
  s.pendings.filterMap fun (h, name, e) =>
    if s.armingHolds name then some (.armed h name (stampOf s.straps e.nextFire) s.memberView) else none

/-- The ABANDONED records of leaving TRACK and HOLDOVER: reason STATE, an empty missing set (R157). -/
def abandonedRecords (s : State) : List EventRecord :=
  s.pendings.map fun (h, name, e) => .abandoned h name (stampOf s.straps e.nextFire) .state 0

/-- The entries that a forward jump from a to b passes, in ascending order of handle (R128, R129). -/
def passedEntries (s : State) (a b : Nat) : List (Nat × Entry) :=
  s.handled.filter (fun (_, e) => e.state == .armed && decide (a < e.nextFire ∧ e.nextFire ≤ b))

/-- The FIRE records of their late firings, each with the late flag and the skipped count after its accounting
(R129, R130). -/
def lateRecords (s : State) (a b : Nat) : List EventRecord :=
  (s.passedEntries a b).filterMap fun (h, e) =>
    if e.reportFires then
      some (.fire h e.kind (stampOf s.straps e.nextFire) true
        (e.skipped + min ((b - e.nextFire) / (e.period * epochLength s.straps)) (e.remaining - 1)))
    else none

/-! ## Invariants -/

/-- The lists of fixed or bounded length have it (R86, R87, R118, R124, R161, R171). -/
def capacitiesHold (s : State) : Prop :=
  s.capture.queue.length ≤ 16 ∧ s.correction.log.length ≤ 16 ∧ s.schedule.declined.length ≤ 4 ∧
    s.schedule.slots.length = 16 ∧ s.schedule.lines.length = 4

/-- H has reached every value of T, both are 64-bit counts, and the rate trim lies in its range (R27, R29,
R30). -/
def timeHolds (s : State) : Prop :=
  s.timebase.time ≤ s.timebase.high ∧ s.timebase.high < 2 ^ 64 ∧
    -200000 ≤ s.timebase.trim ∧ s.timebase.trim ≤ 200000

/-- Every repetition of every entry is counted once, and at least one is still to come (R126). -/
def accountingHolds (s : State) : Prop :=
  ∀ (h : Nat) (e : Entry), s.holds h e → e.fired + e.skipped + e.remaining = e.initialRepeats ∧ 1 ≤ e.remaining

/-- A PENDING entry is SHARED with a deadline 2E before its target and stands only in TRACK and HOLDOVER, an ARMED
one has no deadline, and the own proposal is PENDING (R119, R145, R155, R157). -/
def agreementHolds (s : State) : Prop :=
  s.schedule.slots.length = 16 ∧
    (∀ (h : Nat) (e : Entry), s.holds h e → e.state = .pending →
      (∃ name, e.kind = .shared name) ∧ e.deadline = some (e.nextFire - 2 * epochLength s.straps) ∧
        (s.sync.state = .track ∨ s.sync.state = .holdover)) ∧
    (∀ (h : Nat) (e : Entry), s.holds h e → e.state = .armed → e.deadline = none) ∧
    (∀ h : Nat, s.schedule.ownProposal = some h → ∃ (e : Entry) (tag : Nat), s.holds h e ∧ e.state = .pending ∧
      e.kind = .shared ⟨ownNumber s.straps, tag⟩)

/-- The peer table has its size and SELF at the own number alone; outside the transmitting states no entry is
CANDIDATE or MEMBER, no lead is current and the foreign set is empty; a listen deadline stands in LISTEN and
nowhere else (R44, R48, R63, R65, R91, R96). -/
def groupHolds (s : State) : Prop :=
  s.peers.length = tableSize s.straps ∧
    s.peers[ownNumber s.straps]? = some Peer.own ∧
    (∀ (j : Nat) (e : Peer), s.peers[j]? = some e → j ≠ ownNumber s.straps → e.state ≠ .self) ∧
    (s.transmitting = false → s.sync.foreign = 0 ∧
      ∀ e ∈ s.peers, e.state ≠ .candidate ∧ e.state ≠ .member ∧ e.currentLead = none) ∧
    (s.sync.listenDeadline.isSome = true ↔ s.sync.state = .listen)

/-- Every configuration parameter lies in the range of R185. -/
def configHolds (s : State) : Prop := ∀ p : Param, p.accepts (s.port.config.get p) = true

/-- The station has joined in every state but DORMANT and HALTED; from the first JOIN on the bounds fit the guard
and one another (R94, R95, R185, R187). -/
def joinedHolds (s : State) : Prop :=
  (s.sync.state ≠ .dormant → s.sync.state ≠ .halted → s.port.frozen = true) ∧
    (s.port.frozen = true → s.boundsFit)

/-- No CANDIDATE or MEMBER has an attribute at or above its threshold (R59). -/
def thresholdsHold (s : State) : Prop :=
  ∀ e ∈ s.peers, e.state = .candidate ∨ e.state = .member →
    e.frame < s.port.config.frameThreshold ∧ e.outlier < s.port.config.outlierThreshold ∧
      e.view < s.port.config.viewThreshold

/-- Every lead held lies within the guard (R16, R45). -/
def leadsHold (s : State) : Prop :=
  ∀ e ∈ s.peers, (∀ l, e.currentLead = some l → l.natAbs ≤ guardTime s.straps) ∧
    (∀ l, e.lastLead = some l → l.natAbs ≤ guardTime s.straps)

end State

/-- The entry e' is e after one arrival of b with this lead in window epoch n, its VIEW attribute given: content
stored, lead recorded, miss run cleared, FRAME and OUTLIER and the good run updated, the final state settled (R47,
R49, R51, R52, R54, R55, R59). -/
def arrivesAs (c : ConfigStore) (b : Beacon) (n : Nat) (lead : Int) (e e' : Peer) : Prop :=
  e'.currentLead = some lead ∧ e'.lastLead = some lead ∧ e'.lastHeard = some n ∧
    e'.reportedState = some b.state ∧ e'.reportedView = some b.view ∧ e'.held = b.held ∧
    e'.offer = b.offer.map (fun o => { o with targetEpoch := resolveEpoch o.targetEpoch n }) ∧
    e'.missRun = 0 ∧ e'.frame = e.frame - 1 ∧
    e'.outlier = (if c.outlierBound < lead.natAbs then min 255 (e.outlier + 4) else e.outlier - 1) ∧
    ∀ run tripped, run = (if lead.natAbs ≤ c.admitBound then min 255 (e.goodRun + 1) else 0) →
      (tripped ↔ c.frameThreshold ≤ e'.frame ∨ c.outlierThreshold ≤ e'.outlier ∨ c.viewThreshold ≤ e'.view) →
      (e.state = .excluded → e'.goodRun = 0 ∧
        e'.state = (if e'.frame = 0 ∧ e'.outlier = 0 ∧ e'.view = 0 then .candidate else .excluded)) ∧
      (e.state ≠ .excluded → tripped → e'.state = .excluded ∧ e'.goodRun = 0) ∧
      (e.state ≠ .excluded → ¬ tripped → e'.goodRun = run ∧
        e'.state = (if e.state = .member ∨ c.admitCount ≤ run then .member else .candidate))

/-! ## The layout of a response record (10.5) -/

/-- A number in `count` bytes, most significant first, a negative one in two's complement (R201, R202). -/
def msbFirst (count : Nat) (n : Int) : List Byte :=
  (List.range count).map (fun i => BitVec.ofInt 8 (n / ((256 ^ (count - 1 - i) : Nat) : Int)))

/-- The number that a byte of flags carries, bit 0 first in the list. -/
def flagNumber (flags : List Bool) : Int := flags.foldr (fun b n => b.toNat + 2 * n) 0

/-- The number of an alert-flag byte (R201). -/
def alertNumber (a : AlertSet) : Int := flagNumber [a.state, a.membership, a.event, a.overflow, a.correction]

/-- The number of a correction-flag byte (R201). -/
def corrNumber (f : CorrFlags) : Int := flagNumber [f.inexact, f.empty, f.reduced, f.clamped, f.saturated]

/-- Fields of a record in order: how many bytes, and the number in them. -/
abbrev Layout := List (Nat × Int)

/-- The parts of a body one after another. -/
def inOrder (parts : List Layout) : Layout := parts.flatten

/-- Epoch and position. -/
def stampLayout (t : Stamp) : Layout := [(4, t.epoch.toNat), (3, t.position)]

/-- An absent epoch and position occupy their bytes, which are 0 (R201). -/
def deadlineLayout : Option Stamp → Layout
  | some t => stampLayout t
  | none => [(4, 0), (3, 0)]

/-- Proposer and tag; those of a LOCAL entry are 0. -/
def nameLayout : EntryKind → Layout
  | .shared name => [(1, name.proposer), (1, name.tag)]
  | .localOnly => [(1, 0), (1, 0)]

/-- The READ ENTRY body. -/
def entryLayout (e : EntryRecord) : Layout :=
  inOrder
    [[(1, e.handle),
      (1, flagNumber [e.kind != .localOnly, e.state == .armed, e.reportFires, e.heldFlag, e.deadline.isSome])],
    nameLayout e.kind, stampLayout e.nextFire,
    [(2, e.width), (1, e.lines.toNat), (2, e.period), (2, e.initialRepeats), (2, e.remaining), (2, e.fired),
      (2, e.skipped)],
    deadlineLayout e.deadline]

/-- The four slots of a held list (R201). -/
def slotLayout (held : List Pair) : Layout :=
  (List.range 4).flatMap fun i => match held[i]? with
    | some p => [(1, p.proposer), (1, p.tag)]
    | none => [(1, 0), (1, 0)]

/-- A stored offer, or its 15 bytes of 0. -/
def offerLayout : Option Offer → Layout
  | some o => [(1, o.tag), (4, o.targetEpoch), (3, o.targetPosition), (2, o.width), (1, o.lines.toNat),
      (2, o.period), (2, o.repeats)]
  | none => [(15, 0)]

/-- The READ PEER body. -/
def peerLayout (e : Peer) : Layout :=
  inOrder
    [[(1, e.state.byte.toNat),
      (1, flagNumber [e.currentLead.isSome, e.lastLead.isSome, e.lastHeard.isSome, e.reportedState.isSome,
        e.reportedView.isSome, e.offer.isSome]),
      (2, e.currentLead.getD 0), (2, e.lastLead.getD 0), (4, e.lastHeard.getD 0),
      (1, match e.reportedState with | some st => st.byte.toNat | none => 0),
      (4, match e.reportedView with | some view => view.toNat | none => 0), (1, e.held.length)],
    slotLayout e.held, offerLayout e.offer,
    [(1, e.goodRun), (1, e.missRun), (1, e.frame), (1, e.outlier), (1, e.view)]]

/-- The event kind and the 17 bytes of an event body, the kind's fields and then zero bytes. -/
def eventLayout : EventRecord → Layout
  | .capture input edge stamp state =>
    inOrder [[(1, 1), (1, input), (1, match edge with | .rise => 0 | .fall => 1)], stampLayout stamp,
      [(1, state.byte.toNat), (7, 0)]]
  | .fire handle kind scheduled late skipped =>
    inOrder [[(1, 2), (1, handle), (1, flagNumber [kind != .localOnly, late])], nameLayout kind,
      stampLayout scheduled, [(2, skipped), (4, 0)]]
  | .armed handle name target view =>
    inOrder [[(1, 3), (1, handle), (1, name.proposer), (1, name.tag)], stampLayout target,
      [(4, view.toNat), (3, 0)]]
  | .abandoned handle name target reason missing =>
    inOrder [[(1, 4), (1, handle), (1, name.proposer), (1, name.tag)], stampLayout target,
      [(1, match reason with | .deadline => 0 | .state => 1), (4, missing.toNat), (2, 0)]]
  | .cancelled handle name state nextFire fired skipped remaining =>
    inOrder [[(1, 5), (1, handle), (1, name.proposer), (1, name.tag),
        (1, match state with | .pending => 0 | .armed => 1)],
      stampLayout nextFire, [(2, fired), (2, skipped), (2, remaining)]]

/-- The OK bodies of 10.5, field by field. -/
def bodyLayout : ResponseBody → Layout
  | .nothing => []
  | .startCause cause => [(1, cause.byte.toNat)]
  | .status r =>
    [(1, r.state.byte.toNat), (1, r.lastCause.byte.toNat), (1, (haltByte r.haltCause).toNat), (1, r.memberCount),
      (1, alertNumber r.raised), (1, alertNumber r.mask), (1, alertNumber r.signalling),
      (1, corrNumber r.enables), (1, corrNumber r.sticky), (1, r.queueCount),
      (1, flagNumber [r.overflow, r.frozen, r.holdLeft, r.holdLevel, r.straps.auto, r.ownProposal.isSome]),
      (1, r.startCause.byte.toNat), (1, r.straps.stn.toNat), (1, r.straps.win.toNat), (1, r.straps.epl.toNat),
      (1, match r.windowCount with | some w => w | none => 0), (3, r.epochLength),
      (1, match r.ownProposal with | some handle => handle | none => 0), (1, r.nextTag)]
  | .config store frozen => inOrder [allParams.map (fun p => (2, (store.get p : Int))), [(1, frozen.toNat)]]
  | .time r => inOrder [stampLayout r.stamp, [(4, r.trim), (2, r.slewLeft), (1, r.state.byte.toNat)]]
  | .entry r => entryLayout r
  | .listed count r => (1, count) :: entryLayout r
  | .peer e => peerLayout e
  | .log r =>
    [(4, r.epoch), (1, r.state.byte.toNat), (1, r.samples), (1, r.effectiveTrim), (2, r.correction),
      (1, r.action.byte.toNat), (2, r.applied), (4, r.trimAfter), (1, corrNumber r.flags),
      (1, r.resultClass.byte.toNat)]
  | .event count r => (1, count) :: eventLayout r
  | .parameter ident value => [(1, ident.toNat), (2, value)]
  | .masks mask enables => [(1, alertNumber mask), (1, corrNumber enables)]
  | .handle handle => [(1, handle)]
  | .handleTag handle tag => [(1, handle), (1, tag)]

/-- The state after these rows have been run one after another. -/
def afterRows (rows : List Instr) (s : State) : State :=
  rows.foldl (fun s c => match exec c s with | .next t => t | .fault _ => s | .refused _ => s) s

/-- The rows of all instants at one value of T, in the order that log 3 names. -/
def settlingRows : List Instr :=
  (List.finRange 16).map .triggerFire ++ (List.finRange 16).map .sharedDeadline
    ++ [.declinedExpiry, .listenDeadline, .ownSendInstant, .windowClose, .epochClose]
    ++ (List.finRange 4).map .pulseEnd ++ [.slewPoint]

/-- The n-th tag from a counter on in the cyclic order 1, 2, ..., 255, 1 (R143). -/
def cyclicTag (counter n : Nat) : Nat := (counter - 1 + n) % 255 + 1

/-- A tag is free for a new proposal (R143). -/
abbrev State.isFreeTag (s : State) (tag : Nat) : Prop :=
  (∀ (h : Nat) (e : Entry), h < 16 → s.holds h e → e.kind ≠ .shared ⟨ownNumber s.straps, tag⟩) ∧
    ∀ e ∈ s.peers, (⟨ownNumber s.straps, tag⟩ : Pair) ∉ e.held

end Sys2Proof.Machine
end

