-- ==== Sys2Proof/Certificates/Slice0/Obligations.lean ====
section
/-!
DEFINITION. Obligations.lean: the statements for the provers. Each docstring names the rules of spec/ it rests on,
and the log entries where a clause is the model's own choice.
-/

open Sys2Proof Sys2Proof.Machine

/-! ## The queue and the station port -/

/-- A step runs the command at the front of the queue on the state with the queue's rest; on an empty queue the
block idles (log 2: the model's choice). -/
def Obligations.StepRunsTheFrontCommand : Prop :=
  (∀ (c : Instr) (rest : List Instr) (s : State),
    step { s with pending := c :: rest } = exec c { s with pending := rest }) ∧
  ∀ s : State, s.pending = [] → step s = .next s

/-- Every command answers a next state, and leaves the waiting commands as they are. -/
def Obligations.EveryCommandCompletesAndKeepsTheQueue : Prop :=
  ∀ (c : Instr) (s : State), ∃ t, exec c s = .next t ∧ t.pending = s.pending

/-- While a power-on or RESETn start is in progress nothing but the start's own rows acts (R196; log 14 for the
instants). After a start that ended with CSn low, the first transaction to end is ignored (R196, R198; that SDO
carries nothing but fill in it is log 23's choice). SDO is high-impedance during a start and while CSn is high (R178,
R196). -/
def Obligations.StartsHoldOffTransactions : Prop :=
  (∀ (c : Instr) (s : State), s.port.starting ≠ none → isStartRow c = false → exec c s = .next s) ∧
  (∀ (c : Instr) (s : State), isTransaction c = true → s.port.starting = none → s.port.awaitCsHigh = true →
    exec c s = .next { s with port.awaitCsHigh := false, port.sdo := [] }) ∧
  ∀ (s : State) (csnLow : Bool) (sdi : List Bool),
    (s.port.starting ≠ none ∨ csnLow = false → s.sdoLevel csnLow sdi = none) ∧
    (s.port.starting = none → s.port.awaitCsHigh = true → s.sdoLevel true sdi = some true)

/-- RESPONSE shifts out the record in the holder and then fill, and changes neither holder nor serial; a discarded
transaction takes no command; an unknown code answers UNKNOWN and acts on nothing else (R178, R179, R181, R202).
Every record is as long as 10.5 gives: a header of command, serial and code, and for OK the body of 10.5 field by
field, each number most significant byte first in its width, a signed one in two's complement, an absent field as
zero bytes with its presence bit clear (R180, R201, R202). SDO shifts the bytes held out most significant bit first,
and fill bits for every clock beyond them; a response transaction is the one whose first byte is 0x00, and only it
carries the record (R178, R179, R202). -/
def Obligations.TransactionsThatActOnNothing : Prop :=
  (∀ (s : State) (count : Nat), s.takes = true →
    exec (.response count) s = .next { s with port.sdo :=
      0xFF :: (responseBytes s.port.holder ++ List.replicate count 0xFF).take count }) ∧
  (∀ (s : State) (count : Nat), s.takes = true →
    exec (.transactionDiscarded count) s = .next { s with port.sdo := List.replicate count 0xFF }) ∧
  (∀ (s : State) (code : Byte), s.takes = true → wellFormed (.unknownCommand code) = true →
    exec (.unknownCommand code) s = .next (s.declined code 0 .unknown)) ∧
  (∀ r : Response, (responseBytes r).length = 3 +
    (if r.code = .ok then
      match r.body with
      | .nothing => 0
      | .startCause _ => 1
      | .status _ => 21
      | .config _ _ => 45
      | .time _ => 14
      | .entry _ => 31
      | .listed _ _ => 32
      | .peer _ => 44
      | .log _ => 18
      | .event _ _ => 19
      | .parameter _ _ => 3
      | .masks _ _ => 2
      | .handle _ => 1
      | .handleTag _ _ => 2
    else 0)) ∧
  (∀ (s : State) (clocks : Nat), (s.sdoBits clocks).length = clocks ∧
    ∀ i, i < clocks → (s.sdoBits clocks)[i]? = some ((s.port.sdo.getD (i / 8) 0xFF).getMsbD (i % 8))) ∧
  (∀ r : Response, responseBytes r = [r.command, BitVec.ofNat 8 r.serial, r.code.byte] ++
    (if r.code = .ok then (bodyLayout r.body).flatMap (fun f => msbFirst f.1 f.2) else [])) ∧
  ([.ok, .state, .frozen, .invalid, .full, .past, .notFound, .empty, .busyProposal, .held, .notExcluded,
      .unknown].map ResponseCode.byte = [0, 1, 2, 3, 4, 5, 6, 7, 8, 9, 10, 11] ∧
    [.dormant, .listen, .acquire, .track, .holdover, .leaving, .halted].map StationState.byte
      = [0, 1, 2, 3, 4, 5, 6] ∧
    [.start, .strap, .joined, .aligned, .founded, .locked, .unlocked, .isolated, .relocked, .holdoverExpired, .merge,
      .leaveSecure, .holdSecure, .leaveFast, .holdFast, .left, .duplicate, .overdriven].map Cause.byte
      = [0, 1, 2, 3, 4, 5, 6, 7, 8, 9, 10, 11, 12, 13, 14, 15, 16, 17] ∧
    [none, some .strap, some .duplicate, some .overdriven].map haltByte = [0, 1, 16, 17] ∧
    [.powerOn, .pin, .command].map StartCause.byte = [1, 2, 3] ∧
    [.absent, .candidate, .member, .excluded, .self].map PeerState.byte = [0, 1, 2, 3, 4] ∧
    [.acquire, .track, .holdover, .leaving].map SenderState.byte = [2, 3, 4, 5] ∧
    [.step, .slew, .none].map Action.byte = [0, 1, 2] ∧
    [.negative, .zero, .positive].map ResultClass.byte = [0, 1, 2]) ∧
  (∀ (s : State) (sdi : List Bool), s.takes = true →
    (sdi.length < 8 ∨ sdi.take 8 ≠ List.replicate 8 false → s.sdoLevel true sdi = some true) ∧
    (8 ≤ sdi.length → sdi.take 8 = List.replicate 8 false →
      s.sdoLevel true sdi = some (((responseBytes s.port.holder).getD (sdi.length / 8 - 1) 0xFF).getMsbD
        (sdi.length % 8)))) ∧
  ∀ (s t : State) (pins : Pins) (sdi : List Bool), s.port.starting = none →
    exec (decodeSpi pins sdi) s = .next t →
    ∀ i, i < sdi.length → (t.sdoBits sdi.length)[i]? = s.sdoLevel true (sdi.take i)

/-- Every command but RESTART moves the serial up by 1 and leaves its record in the holder under the new serial; a
command answered with any code but OK changes nothing else (R180, R181). -/
def Obligations.RefusedCommandsChangeNothing : Prop :=
  ∀ (c : Instr) (s t : State), s.takes = true → (encodeTransaction c).isSome = true → isRestart c = false →
    exec c s = .next t →
      t.port.serial = (s.port.serial + 1) % 256 ∧ t.port.holder.serial = t.port.serial ∧
        (t.port.holder.code ≠ .ok →
          ∃ params, t = s.declined t.port.holder.command params t.port.holder.code)

/-- READ STATUS answers with the status record (R183), READ CONFIG with every parameter and the frozen flag (R184),
and READ TIME with epoch, position, rate trim, slew remaining and state (R39, R41); none changes anything else. -/
def Obligations.ReadStatusConfigAndTimeReportEveryBlock : Prop :=
  (∀ s : State, s.takes = true →
      exec .readConfig s = .next (s.answered 0x11 0 .ok (.config s.port.config s.port.frozen))) ∧
  (∀ s : State, s.takes = true →
      exec .readStatus s = .next (s.answered 0x10 0 .ok (.status
        { state := s.sync.state
          lastCause := s.sync.lastCause
          haltCause := s.sync.haltCause
          memberCount := s.peers.countP (fun e => e.state == .member)
          raised := { s.port.alerts with event := !s.capture.queue.isEmpty }
          mask := s.port.mask
          signalling :=
            { state := s.port.alerts.state && s.port.mask.state
              membership := s.port.alerts.membership && s.port.mask.membership
              event := !s.capture.queue.isEmpty && s.port.mask.event
              overflow := s.port.alerts.overflow && s.port.mask.overflow
              correction := s.port.alerts.correction && s.port.mask.correction }
          enables := s.port.enables
          sticky := s.correction.sticky
          queueCount := s.capture.queue.length
          overflow := s.port.alerts.overflow
          startCause := s.port.startCause
          straps := s.port.straps
          windowCount := if s.port.straps.win = 3 then none else some (8 * 2 ^ s.port.straps.win.toNat)
          epochLength := 256000 * 2 ^ s.port.straps.epl.toNat
          frozen := s.port.frozen
          ownProposal := s.schedule.ownProposal
          nextTag := s.schedule.tagCounter
          holdLeft := s.sync.holdLeft
          holdLevel := s.port.holdLevel }))) ∧
  ∀ s : State, s.takes = true →
    exec .readTime s = .next (s.answered 0x12 0 .ok (.time
      { stamp := ⟨BitVec.ofNat 32 (s.now / epochLength s.straps), s.now % epochLength s.straps⟩
        trim := s.timebase.trim
        slewLeft := s.timebase.slewLeft
        state := s.sync.state }))

/-- READ ENTRY answers with every field of the entry in the slot, NOT_FOUND for a free slot and INVALID for a
handle of 16 or more (R136). -/
def Obligations.ReadEntryReportsTheSlot : Prop :=
  ∀ (s : State) (handle : Byte), s.takes = true →
    (∀ e, handle.toNat < 16 → s.holds handle.toNat e →
      exec (.readEntry handle) s = .next (s.answered 0x13 1 .ok (.entry
        { handle := handle.toNat, kind := e.kind, state := e.state, nextFire := stampOf s.straps e.nextFire,
          width := e.width, lines := e.lines, period := e.period, initialRepeats := e.initialRepeats,
          remaining := e.remaining, fired := e.fired, skipped := e.skipped, reportFires := e.reportFires,
          deadline := e.deadline.map (stampOf s.straps), heldFlag := e.heldFlag }))) ∧
    (handle.toNat < 16 → s.schedule.slots[handle.toNat]? = some none →
      exec (.readEntry handle) s = .next (s.declined 0x13 1 .notFound)) ∧
    (16 ≤ handle.toNat → exec (.readEntry handle) s = .next (s.declined 0x13 1 .invalid))

/-- READ SCHEDULE reads one list: all entries, in ascending order of next fire time and, where these are equal, of
handle; it answers EMPTY beyond the list and INVALID for a position of 16 or more (R120, R137). -/
def Obligations.ReadScheduleReadsTheOrderedList : Prop :=
  ∀ s : State, s.takes = true → s.schedule.slots.length = 16 →
    ∃ list : List (Nat × Entry),
      (∀ (h : Nat) (e : Entry), (h, e) ∈ list ↔ s.holds h e) ∧
      list.Pairwise (fun a b => a.2.nextFire < b.2.nextFire ∨ (a.2.nextFire = b.2.nextFire ∧ a.1 < b.1)) ∧
      ∀ position : Byte,
        (16 ≤ position.toNat → exec (.readSchedule position) s = .next (s.declined 0x14 1 .invalid)) ∧
        (position.toNat < 16 → list.length ≤ position.toNat →
          exec (.readSchedule position) s = .next (s.declined 0x14 1 .empty)) ∧
        (∀ (h : Nat) (e : Entry), position.toNat < 16 → list[position.toNat]? = some (h, e) →
          exec (.readSchedule position) s = .next (s.answered 0x14 1 .ok (.listed list.length
            { handle := h, kind := e.kind, state := e.state, nextFire := stampOf s.straps e.nextFire,
              width := e.width, lines := e.lines, period := e.period, initialRepeats := e.initialRepeats,
              remaining := e.remaining, fired := e.fired, skipped := e.skipped, reportFires := e.reportFires,
              deadline := e.deadline.map (stampOf s.straps), heldFlag := e.heldFlag })))

/-- READ PEER answers with the entry, epochs as their low 32 bits, and INVALID at or above the table size (R62). -/
def Obligations.ReadPeerReportsTheEntry : Prop :=
  ∀ (s : State) (station : Byte), s.takes = true →
    (∀ e, s.peers[station.toNat]? = some e →
      exec (.readPeer station) s = .next (s.answered 0x15 1 .ok (.peer
        { e with
          lastHeard := e.lastHeard.map (· % 2 ^ 32)
          offer := e.offer.map (fun o => { o with targetEpoch := o.targetEpoch % 2 ^ 32 }) }))) ∧
    (s.peers.length ≤ station.toNat →
      exec (.readPeer station) s = .next (s.declined 0x15 1 .invalid))

/-- READ LOG answers with the record of that age, EMPTY where there is none and INVALID for an age of 16 or more
(R88). -/
def Obligations.ReadLogReportsByAge : Prop :=
  ∀ (s : State) (age : Byte), s.takes = true →
    (∀ r, age.toNat < 16 → s.correction.log[age.toNat]? = some r →
      exec (.readLog age) s = .next (s.answered 0x16 1 .ok (.log { r with epoch := r.epoch % 2 ^ 32 }))) ∧
    (age.toNat < 16 → s.correction.log.length ≤ age.toNat →
      exec (.readLog age) s = .next (s.declined 0x16 1 .empty)) ∧
    (16 ≤ age.toNat → exec (.readLog age) s = .next (s.declined 0x16 1 .invalid))

/-- POP EVENT removes the oldest record and returns it with the count that remains, or answers EMPTY (R174). A posted
record joins the newest end, or is discarded from a full queue with the overflow flag set (R172, R173). EVENT is
raised exactly while the queue holds a record (R175), and ALERTn is low exactly while a raised flag is admitted by
the mask and no start is in progress (R189, R191). -/
def Obligations.EventQueueAndAlertLine : Prop :=
  (∀ (s : State) (r : EventRecord) (rest : List EventRecord), s.takes = true → s.capture.queue = r :: rest →
    exec .popEvent s =
      .next (({ s with capture.queue := rest } : State).answered 0x17 0 .ok (.event rest.length r))) ∧
  (∀ s : State, s.takes = true → s.capture.queue = [] → exec .popEvent s = .next (s.declined 0x17 0 .empty)) ∧
  (∀ (s : State) (r : EventRecord), s.capture.queue.length < 16 →
    s.post r = { s with capture.queue := s.capture.queue ++ [r] }) ∧
  (∀ (s : State) (r : EventRecord), 16 ≤ s.capture.queue.length →
    s.post r = { s with port.alerts.overflow := true }) ∧
  (∀ s : State, s.raised.event = true ↔ s.capture.queue ≠ []) ∧
  ∀ s : State, s.alertLow = true ↔ s.port.starting = none ∧
    ((s.port.alerts.state = true ∧ s.port.mask.state = true) ∨
      (s.port.alerts.membership = true ∧ s.port.mask.membership = true) ∨
      (s.capture.queue ≠ [] ∧ s.port.mask.event = true) ∨
      (s.port.alerts.overflow = true ∧ s.port.mask.overflow = true) ∨
      (s.port.alerts.correction = true ∧ s.port.mask.correction = true))

/-! ## Configuration and alerts -/

/-- CONFIGURE is checked in the order of R186; accepted, it sets the one parameter and no other. A frame being
received will use a new line delay (log 13). The identifiers, ranges and defaults of the 22 parameters are those of
R185 and 10.5, as rows (identifier, lowest, highest, default); each identifier names its own field, and the codes
that name a value of it are those of 10.5. -/
def Obligations.ConfigureSetsOneParameter : Prop :=
  (∀ (s : State) (ident : Byte) (value : BitVec 16), s.takes = true →
      (paramOf ident = none → exec (.configure ident value) s = .next (s.declined 0x20 3 .invalid)) ∧
      ∀ p, paramOf ident = some p →
        (p.names value.toNat = false → exec (.configure ident value) s = .next (s.declined 0x20 3 .invalid)) ∧
        (p.names value.toNat = true → s.port.frozen = true →
          exec (.configure ident value) s = .next (s.declined 0x20 3 .frozen)) ∧
        (p.names value.toNat = true → s.port.frozen = false → s.sync.state ≠ .dormant →
          exec (.configure ident value) s = .next (s.declined 0x20 3 .state)) ∧
        (p.names value.toNat = true → s.port.frozen = false → s.sync.state = .dormant →
          p.accepts value.toNat = false →
          exec (.configure ident value) s = .next (s.declined 0x20 3 .invalid)) ∧
        (s.port.frozen = false → s.sync.state = .dormant → p.accepts value.toNat = true →
          ∃ store : ConfigStore, store.get p = value.toNat ∧ (∀ q, q ≠ p → store.get q = s.port.config.get q) ∧
            exec (.configure ident value) s = .next
              (({ s with
                  port.config := store
                  link.reception := s.link.reception.map
                    (fun r => ⟨r.timingMark, (r.timingMark : Int) - store.lineDelay⟩) } : State).answered
                0x20 3 .ok (.parameter ident value.toNat)))) ∧
  (∀ row ∈ ([(1, 0, 2000, 0), (2, 0, 3, 1), (3, 0, 64, 16), (4, 0, 3, 0), (5, 10, 32000, 100),
      (6, 10, 32000, 500), (7, 10, 32000, 1000), (8, 10, 1000, 200), (9, 1, 16, 4), (10, 10, 32000, 1000),
      (11, 10, 32000, 1000), (12, 1, 16, 3), (13, 4, 255, 24), (14, 4, 255, 24), (15, 4, 255, 24),
      (16, 0, 1, 0), (17, 0, 1, 0), (18, 0, 1, 0), (19, 0, 1, 0), (20, 0, 3, 0), (21, 0, 3, 0),
      (22, 0, 2, 0)] : List (Nat × Nat × Nat × Nat)),
    ∃ p, paramOf (BitVec.ofNat 8 row.1) = some p ∧ ConfigStore.defaults.get p = row.2.2.2 ∧
      ∀ v, p.accepts v = decide (row.2.1 ≤ v ∧ v ≤ row.2.2.1)) ∧
  (∀ ident : Byte, ident = 0 ∨ 22 < ident.toNat → paramOf ident = none) ∧
  (List.range 22).map (fun i => paramOf (BitVec.ofNat 8 (i + 1))) =
    ([.lineDelay, .trimCount, .gain, .rounding, .lockWindow, .unlockBound, .stepThreshold, .slewMax, .admitCount,
      .admitBound, .outlierBound, .missLimit, .frameThreshold, .outlierThreshold, .viewThreshold, .level0, .level1,
      .level2, .level3, .edge0, .edge1, .holdReaction] : List Param).map some ∧
  (∀ (p : Param) (v : Nat), p.names v = true ↔
    (p = .rounding → v < 4) ∧ (p = .level0 ∨ p = .level1 ∨ p = .level2 ∨ p = .level3 → v < 2) ∧
      (p = .edge0 ∨ p = .edge1 → v < 4) ∧ (p = .holdReaction → v < 3)) ∧
  ∀ c : ConfigStore,
    (c.get .lineDelay = c.lineDelay ∧ c.get .trimCount = c.trimCount ∧ c.get .gain = c.gain ∧
      c.get .lockWindow = c.lockWindow ∧ c.get .unlockBound = c.unlockBound ∧
      c.get .stepThreshold = c.stepThreshold ∧ c.get .slewMax = c.slewMax ∧ c.get .admitCount = c.admitCount ∧
      c.get .admitBound = c.admitBound ∧ c.get .outlierBound = c.outlierBound ∧
      c.get .missLimit = c.missLimit ∧ c.get .frameThreshold = c.frameThreshold ∧
      c.get .outlierThreshold = c.outlierThreshold ∧ c.get .viewThreshold = c.viewThreshold) ∧
    c.get .rounding = (match c.rounding with | .nearestEven => 0 | .towardZero => 1 | .down => 2 | .up => 3) ∧
    (∀ row ∈ [(Param.level0, c.level0), (.level1, c.level1), (.level2, c.level2), (.level3, c.level3)],
      c.get row.1 = (match row.2 with | .high => 0 | .low => 1)) ∧
    (∀ row ∈ [(Param.edge0, c.edge0), (.edge1, c.edge1)],
      c.get row.1 = (match row.2 with | .off => 0 | .rise => 1 | .fall => 2 | .both => 3)) ∧
    c.get .holdReaction = (match c.holdReaction with | .none => 0 | .secure => 1 | .fast => 2)

/-- The configuration stands while it is frozen, and nothing but CONFIGURE and the starts changes it or clears the
frozen flag (R185, R187). -/
def Obligations.FrozenConfigurationStands : Prop :=
  ∀ (c : Instr) (s t : State), exec c s = .next t → isRestart c = false → isStartRow c = false →
    (s.port.frozen = true → t.port.frozen = true ∧ t.port.config = s.port.config) ∧
      ((∀ ident value, c ≠ .configure ident value) → t.port.config = s.port.config)

/-- SET ALERT MASK replaces the mask and the correction enables whole and raises or lowers no flag; a flag byte with
one of bits 5 to 7 set answers INVALID (R190). -/
def Obligations.SetAlertMaskReplacesBothSets : Prop :=
  ∀ (s : State) (mask enables : Byte), s.takes = true →
    (mask.toNat < 32 → enables.toNat < 32 → ∃ m c,
      m = (⟨mask.getLsbD 0, mask.getLsbD 1, mask.getLsbD 2, mask.getLsbD 3, mask.getLsbD 4⟩ : AlertSet) ∧
      c = (⟨enables.getLsbD 0, enables.getLsbD 1, enables.getLsbD 2, enables.getLsbD 3,
        enables.getLsbD 4⟩ : CorrFlags) ∧
      exec (.setAlertMask mask enables) s = .next
        (({ s with port.mask := m, port.enables := c } : State).answered 0x21 2 .ok (.masks m c))) ∧
    (32 ≤ mask.toNat ∨ 32 ≤ enables.toNat →
      exec (.setAlertMask mask enables) s = .next (s.declined 0x21 2 .invalid))

/-- CLEAR lowers the named sticky alert flags, removes the named correction flags, and leaves EVENT to the queue
(R82, R175, R192). -/
def Obligations.ClearLowersTheNamedFlags : Prop :=
  ∀ (s : State) (a c : Byte), s.takes = true →
    (a.toNat < 32 → c.toNat < 32 → ∃ t : State, exec (.clear a c) s = .next (t.answered 0x22 2 .ok .nothing) ∧
      t = { s with port.alerts := t.port.alerts, correction.sticky := t.correction.sticky } ∧
      t.port.alerts.state = (s.port.alerts.state && !a.getLsbD 0) ∧
      t.port.alerts.membership = (s.port.alerts.membership && !a.getLsbD 1) ∧
      t.port.alerts.overflow = (s.port.alerts.overflow && !a.getLsbD 3) ∧
      t.port.alerts.correction = (s.port.alerts.correction && !a.getLsbD 4) ∧
      t.raised.event = s.raised.event ∧
      t.correction.sticky =
        { inexact := s.correction.sticky.inexact && !c.getLsbD 0
          empty := s.correction.sticky.empty && !c.getLsbD 1
          reduced := s.correction.sticky.reduced && !c.getLsbD 2
          clamped := s.correction.sticky.clamped && !c.getLsbD 3
          saturated := s.correction.sticky.saturated && !c.getLsbD 4 }) ∧
    (32 ≤ a.toNat ∨ 32 ≤ c.toNat → exec (.clear a c) s = .next (s.declined 0x22 2 .invalid))

/-! ## State changes, joining and leaving -/

/-- What a state change does to every block (R25, R26, R65, R90, R91, R157), but for an entry to DORMANT that joins
again at once (R114). Leaving TRACK and HOLDOVER abandons every PENDING entry, an ABANDONED record with reason STATE
and an empty missing set for each, in ascending order of handle (R156, R157, R172). That a beacon in progress goes on
in LISTEN is log 16's reading, and that a clearing of the table evaluates no arming log 17's. -/
def Obligations.StateChangeActsOnEveryBlock : Prop :=
  ∀ (s : State) (new : StationState) (cause : Cause),
    (new = .dormant → s.sync.holdLeft = true → s.port.holdLevel = true) →
    ∀ t, t = s.changeState new cause →
      t.sync =
        { state := new
          lastCause := cause
          haltCause := if new = .halted then haltCauseOf cause else s.sync.haltCause
          lockRun := 0
          unlockRun := 0
          relockRun := 0
          holdoverCount := 0
          leavingCount := 0
          listenDeadline := if new = .listen then s.sync.listenDeadline else none
          foreign := if new = .dormant ∨ new = .listen ∨ new = .halted then 0 else s.sync.foreign
          alignSources := if new = .listen then s.sync.alignSources else 0
          holdLeft := s.sync.holdLeft } ∧
      t.timebase = s.timebase ∧ t.correction = s.correction ∧ t.pending = s.pending ∧
      t.port = { s.port with alerts := t.port.alerts } ∧ t.port.alerts.state = true ∧
      t.port.alerts.correction = s.port.alerts.correction ∧
      t.link =
        (if new = .dormant ∨ new = .halted then
          (if s.link.beacon.isSome then { s.link with beacon := none, completeRun := 0 } else s.link)
        else if new = .listen then { s.link with overdriveRun := 0, completeRun := 0 }
        else s.link) ∧
      t.peers =
        (if new = .dormant ∨ new = .listen ∨ new = .halted then s.peers.map State.clearedEntry else s.peers) ∧
      t.port.alerts.membership = (s.port.alerts.membership ||
        (new.quiet && s.peers.any (fun e => e.state == .candidate || e.state == .member))) ∧
      t.schedule.lines = s.schedule.lines ∧ t.schedule.declined = s.schedule.declined ∧
      t.schedule.tagCounter = s.schedule.tagCounter ∧ t.capture.cap0 = s.capture.cap0 ∧
      t.capture.cap1 = s.capture.cap1 ∧ s.capture.queue <+: t.capture.queue ∧
      (s.sync.state.agrees = false ∨ new.agrees = true →
        t.capture = s.capture ∧ t.port.alerts.overflow = s.port.alerts.overflow) ∧
      (s.sync.state.agrees = true → new.agrees = false → s.capture.queue.length ≤ 16 →
        ∃ records : List EventRecord, t.capture.queue = (s.capture.queue ++ records).take 16 ∧
          t.port.alerts.overflow =
            (s.port.alerts.overflow || decide (16 < s.capture.queue.length + records.length)) ∧
          (∀ r, r ∈ records ↔ ∃ h name e, h < 16 ∧ s.holdsPending h name e ∧
            r = .abandoned h name (stampOf s.straps e.nextFire) .state 0) ∧
          (records.map (fun r => match r with
            | .abandoned h _ _ _ _ => h
            | .capture _ _ _ _ | .fire _ _ _ _ _ | .armed _ _ _ _ | .cancelled _ _ _ _ _ _ _ => 16)).Pairwise
              (· < ·)) ∧
      ∀ h, h < 16 →
        (s.sync.state.agrees = true → new.agrees = false → ∀ name e, s.holdsPending h name e →
          t.schedule.slots[h]? = some none ∧ t.schedule.ownProposal ≠ some h) ∧
        (s.sync.state.agrees = false ∨ new.agrees = true ∨ (∀ name e, ¬ s.holdsPending h name e) →
          t.schedule.slots[h]? = s.schedule.slots[h]? ∧
            (s.schedule.ownProposal = some h → t.schedule.ownProposal = some h))

/-- JOIN: the checks in the order of R94; accepted, the configuration is frozen, the marker cleared, and the station
in LISTEN with cause JOINED and the deadline T + 4E + kL (R95). -/
def Obligations.JoinEntersListen : Prop :=
  ∀ s : State, s.takes = true →
    (s.sync.state ≠ .dormant → exec .join s = .next (s.declined 0x30 0 .state)) ∧
    (s.sync.state = .dormant → s.holdBars → exec .join s = .next (s.declined 0x30 0 .held)) ∧
    (s.sync.state = .dormant → ¬ s.holdBars → ¬ s.boundsFit →
      exec .join s = .next (s.declined 0x30 0 .invalid)) ∧
    (s.sync.state = .dormant → ¬ s.holdBars → s.boundsFit →
      ∃ t : State, exec .join s = .next (t.answered 0x30 0 .ok .nothing) ∧
        t.sync = { s.sync with
          state := .listen, lastCause := .joined, lockRun := 0, unlockRun := 0, relockRun := 0,
          holdoverCount := 0, leavingCount := 0, listenDeadline := some s.listenUntil, foreign := 0,
          alignSources := 0, holdLeft := false } ∧
        t.port = { s.port with frozen := true, alerts := t.port.alerts } ∧ t.port.alerts.state = true ∧
        t.link = { s.link with overdriveRun := 0, completeRun := 0 } ∧ t.timebase = s.timebase ∧
        t.correction = s.correction ∧ t.schedule = s.schedule ∧ t.capture = s.capture ∧
        t.peers = s.peers.map State.clearedEntry)

/-- LEAVE(SECURE): LEAVING from ACQUIRE, TRACK and HOLDOVER, DORMANT from LISTEN, no state change in LEAVING and
DORMANT (R108). LEAVE(FAST): DORMANT at once from LISTEN and the transmitting states, no state change in DORMANT
(R110). The marker is cleared in all of them; both answer STATE in HALTED. A mode byte that names no mode answers
INVALID (R181; log 10). -/
def Obligations.LeaveByModeAndState : Prop :=
  (∀ s : State, s.takes = true →
      (∀ mode : Byte, mode ≠ 1 → mode ≠ 2 → exec (.leaveSecure mode) s = .next (s.declined 0x31 1 .invalid)) ∧
      (s.sync.state = .halted → exec (.leaveSecure 1) s = .next (s.declined 0x31 1 .state)) ∧
      (s.sync.state = .acquire ∨ s.sync.state = .track ∨ s.sync.state = .holdover →
        exec (.leaveSecure 1) s = .next
          ((({ s with sync.holdLeft := false } : State).changeState .leaving .leaveSecure).answered
            0x31 1 .ok .nothing)) ∧
      (s.sync.state = .listen →
        exec (.leaveSecure 1) s = .next
          ((({ s with sync.holdLeft := false } : State).changeState .dormant .leaveSecure).answered
            0x31 1 .ok .nothing)) ∧
      (s.sync.state = .leaving ∨ s.sync.state = .dormant →
        exec (.leaveSecure 1) s = .next
          (({ s with sync.holdLeft := false } : State).answered 0x31 1 .ok .nothing))) ∧
  ∀ s : State, s.takes = true →
    (s.sync.state = .halted → exec .leaveFast s = .next (s.declined 0x31 1 .state)) ∧
    (s.sync.state = .dormant →
      exec .leaveFast s = .next (({ s with sync.holdLeft := false } : State).answered 0x31 1 .ok .nothing)) ∧
    (s.sync.state ≠ .halted → s.sync.state ≠ .dormant →
      exec .leaveFast s = .next
        ((({ s with sync.holdLeft := false } : State).changeState .dormant .leaveFast).answered
          0x31 1 .ok .nothing))

/-- A HOLD assertion by reaction and station state (R112, R113). One while HOLD is high has no effect (log 6). -/
def Obligations.HoldAssertionByReaction : Prop :=
  ∀ s : State, s.port.starting = none →
    (s.port.holdLevel = true → exec .holdAssertion s = .next s) ∧
    (s.port.holdLevel = false → ∀ u, u = ({ s with port.holdLevel := true } : State) →
      (s.port.config.holdReaction = .none ∨ s.sync.state = .dormant ∨ s.sync.state = .halted →
        exec .holdAssertion s = .next u) ∧
      (s.port.config.holdReaction = .secure → s.sync.state = .leaving → exec .holdAssertion s = .next u) ∧
      (s.port.config.holdReaction = .secure → s.sync.state = .listen →
        exec .holdAssertion s = .next
          (({ u with sync.holdLeft := true } : State).changeState .dormant .holdSecure)) ∧
      (s.port.config.holdReaction = .secure →
        s.sync.state = .acquire ∨ s.sync.state = .track ∨ s.sync.state = .holdover →
        exec .holdAssertion s = .next
          (({ u with sync.holdLeft := true } : State).changeState .leaving .holdSecure)) ∧
      (s.port.config.holdReaction = .fast → s.sync.state = .leaving →
        exec .holdAssertion s = .next (u.changeState .dormant .holdFast)) ∧
      (s.port.config.holdReaction = .fast →
        s.sync.state = .listen ∨ s.sync.state = .acquire ∨ s.sync.state = .track ∨ s.sync.state = .holdover →
        exec .holdAssertion s = .next
          (({ u with sync.holdLeft := true } : State).changeState .dormant .holdFast)))

/-- A HOLD release joins again in DORMANT with the marker set, and so does an entry to DORMANT with the marker set
and HOLD released; any other release changes the level alone (R112, R114). One while HOLD is low has no effect
(log 6). -/
def Obligations.HoldReleaseRejoins : Prop :=
  (∀ s : State, s.port.starting = none →
    (s.port.holdLevel = false → exec .holdRelease s = .next s) ∧
    (s.port.holdLevel = true →
      (s.port.config.holdReaction = .none ∨ s.sync.state ≠ .dormant ∨ s.sync.holdLeft = false →
        exec .holdRelease s = .next { s with port.holdLevel := false }) ∧
      (s.port.config.holdReaction ≠ .none → s.sync.state = .dormant → s.sync.holdLeft = true → s.boundsFit →
        ∃ t, exec .holdRelease s = .next t ∧ t.sync.state = .listen ∧ t.sync.lastCause = .joined ∧
          t.sync.holdLeft = false ∧ t.sync.listenDeadline = some s.listenUntil ∧ t.port.holdLevel = false ∧
          t.port.frozen = true ∧ t.port.holder = s.port.holder ∧ t.port.serial = s.port.serial ∧
          t.timebase = s.timebase ∧ t.schedule = s.schedule ∧ t.correction = s.correction ∧
          t.capture = s.capture ∧ t.peers = s.peers.map State.clearedEntry))) ∧
  ∀ (s : State) (cause : Cause), s.sync.holdLeft = true → s.port.holdLevel = false → s.boundsFit →
    ∀ t, t = s.changeState .dormant cause →
      t.sync.state = .listen ∧ t.sync.lastCause = .joined ∧ t.sync.holdLeft = false ∧
        t.sync.listenDeadline = some s.listenUntil ∧ t.port.frozen = true ∧ t.port.alerts.state = true ∧
        t.port.holder = s.port.holder ∧ t.port.serial = s.port.serial ∧ t.timebase = s.timebase ∧
        t.correction = s.correction

/-- RELEASE makes an EXCLUDED entry ABSENT with every attribute 0, raises MEMBERSHIP and evaluates arming; it
answers NOT_EXCLUDED for any other entry and INVALID at or above the table size (R46, R61, R64, R151). -/
def Obligations.ReleaseForgetsAnExclusion : Prop :=
  ∀ (s : State) (station : Byte), s.takes = true →
    (∀ e, s.peers[station.toNat]? = some e → e.state = .excluded →
      exec (.release station) s = .next
        ((({ s with
            port.alerts.membership := true
            peers := s.peers.set station.toNat
              { e with
                state := .absent, currentLead := none, goodRun := 0, reportedState := none,
                reportedView := none, held := [], offer := none, frame := 0, outlier := 0,
                view := 0 } } : State).evaluateArming).answered 0x50 1 .ok .nothing)) ∧
    (∀ e, s.peers[station.toNat]? = some e → e.state ≠ .excluded →
      exec (.release station) s = .next (s.declined 0x50 1 .notExcluded)) ∧
    (s.peers.length ≤ station.toNat → exec (.release station) s = .next (s.declined 0x50 1 .invalid))

/-! ## Trigger commands -/

/-- SCHEDULE: the checks in the order of R121, and the LOCAL entry it makes in the lowest free slot (R119, R122). -/
def Obligations.ScheduleMakesALocalEntry : Prop :=
  ∀ (s : State) (p : TriggerParams) (options : Byte), s.takes = true → s.schedule.slots.length = 16 →
    (16 ≤ p.lines.toNat ∨ 2 ≤ options.toNat →
      exec (.schedule p options) s = .next (s.declined 0x40 15 .invalid)) ∧
    (p.lines.toNat < 16 → options.toNat < 2 →
      (s.sync.state = .halted → exec (.schedule p options) s = .next (s.declined 0x40 15 .state)) ∧
      (s.sync.state ≠ .halted → ¬ s.paramsInRange p →
        exec (.schedule p options) s = .next (s.declined 0x40 15 .invalid)) ∧
      (s.sync.state ≠ .halted → s.paramsInRange p → s.targetOf p ≤ s.now →
        exec (.schedule p options) s = .next (s.declined 0x40 15 .past)) ∧
      (s.sync.state ≠ .halted → s.paramsInRange p → s.now < s.targetOf p →
        (∀ h, h < 16 → s.schedule.slots[h]? ≠ some none) →
        exec (.schedule p options) s = .next (s.declined 0x40 15 .full)) ∧
      (∀ h, s.sync.state ≠ .halted → s.paramsInRange p → s.now < s.targetOf p → s.isLowestFree h →
        exec (.schedule p options) s = .next
          (({ s with schedule.slots := s.schedule.slots.set h (some
                { kind := .localOnly, state := .armed, nextFire := s.targetOf p, width := p.width.toNat,
                  lines := BitVec.ofNat 4 p.lines.toNat, period := p.period.toNat,
                  initialRepeats := p.repeats.toNat, remaining := p.repeats.toNat, fired := 0, skipped := 0,
                  reportFires := options.getLsbD 0, deadline := none, heldFlag := false }) } : State).answered
            0x40 15 .ok (.handle h))))

/-- PROPOSE: the checks in the order of R142, the tag drawn by R143, the PENDING entry and the own proposal of R144,
and the evaluation of its arming (R151). -/
def Obligations.ProposeMakesAPendingEntry : Prop :=
  ∀ (s : State) (p : TriggerParams), s.takes = true → s.schedule.slots.length = 16 →
    (16 ≤ p.lines.toNat → exec (.propose p) s = .next (s.declined 0x41 14 .invalid)) ∧
    (p.lines.toNat < 16 →
      (s.sync.state ≠ .track → exec (.propose p) s = .next (s.declined 0x41 14 .state)) ∧
      (s.sync.state = .track →
        (s.schedule.ownProposal ≠ none → exec (.propose p) s = .next (s.declined 0x41 14 .busyProposal)) ∧
        (s.schedule.ownProposal = none →
          ((∀ h, h < 16 → s.schedule.slots[h]? ≠ some none) ∨ 4 ≤ s.heldCount →
            exec (.propose p) s = .next (s.declined 0x41 14 .full)) ∧
          (∀ h, s.isLowestFree h → s.heldCount < 4 →
            (s.targetOf p / epochLength s.straps < s.now / epochLength s.straps + 8 ∨
              s.now / epochLength s.straps + 65535 < s.targetOf p / epochLength s.straps ∨
              ¬ s.paramsInRange p → p.targetPosition.toNat < epochLength s.straps →
              exec (.propose p) s = .next (s.declined 0x41 14 .invalid)) ∧
            (epochLength s.straps ≤ p.targetPosition.toNat →
              exec (.propose p) s = .next (s.declined 0x41 14 .invalid)) ∧
            (s.now / epochLength s.straps + 8 ≤ s.targetOf p / epochLength s.straps →
              s.targetOf p / epochLength s.straps ≤ s.now / epochLength s.straps + 65535 →
              s.paramsInRange p →
              ∀ n, n < 255 → 1 ≤ s.schedule.tagCounter → s.schedule.tagCounter ≤ 255 →
                s.isFreeTag (cyclicTag s.schedule.tagCounter n) →
                (∀ m, m < n → ¬ s.isFreeTag (cyclicTag s.schedule.tagCounter m)) →
                exec (.propose p) s = .next
                  ((({ s with
                      schedule.slots := s.schedule.slots.set h (some
                        { kind := .shared ⟨ownNumber s.straps, cyclicTag s.schedule.tagCounter n⟩,
                          state := .pending, nextFire := s.targetOf p, width := p.width.toNat,
                          lines := BitVec.ofNat 4 p.lines.toNat, period := p.period.toNat,
                          initialRepeats := p.repeats.toNat, remaining := p.repeats.toNat, fired := 0,
                          skipped := 0, reportFires := true,
                          deadline := some (s.targetOf p - 2 * epochLength s.straps), heldFlag := true })
                      schedule.ownProposal := some h
                      schedule.tagCounter := cyclicTag s.schedule.tagCounter (n + 1) } : State).evaluateSlot
                    h).answered 0x41 14 .ok
                    (.handleTag h (cyclicTag s.schedule.tagCounter n))))))))

/-- CANCEL removes the entry; of a SHARED one it ends the own proposal, posts CANCELLED, and declines another
station's pair until its expiry; NOT_FOUND for a free slot, INVALID for a handle of 16 or more (R133, R135, R145,
R161). -/
def Obligations.CancelRemovesTheEntry : Prop :=
  ∀ (s : State) (handle : Byte), s.takes = true →
    (16 ≤ handle.toNat → exec (.cancel handle) s = .next (s.declined 0x42 1 .invalid)) ∧
    (handle.toNat < 16 → s.schedule.slots[handle.toNat]? = some none →
      exec (.cancel handle) s = .next (s.declined 0x42 1 .notFound)) ∧
    (∀ e, handle.toNat < 16 → s.holds handle.toNat e → e.kind = .localOnly →
      exec (.cancel handle) s = .next
        (({ s with schedule.slots := s.schedule.slots.set handle.toNat none } : State).answered
          0x42 1 .ok .nothing)) ∧
    (∀ e name, handle.toNat < 16 → s.holds handle.toNat e → e.kind = .shared name →
      ∀ others, others = s.schedule.declined.filter (fun r => r.name != name) →
      exec (.cancel handle) s = .next
        ((({ s with
            schedule.slots := s.schedule.slots.set handle.toNat none
            schedule.ownProposal :=
              if s.schedule.ownProposal = some handle.toNat then none else s.schedule.ownProposal
            schedule.declined :=
              if name.proposer ≠ ownNumber s.straps ∧ e.heldFlag = true ∧
                  s.now < e.nextFire - 2 * epochLength s.straps then
                (if 4 ≤ others.length then others.drop 1 else others)
                  ++ [⟨name, e.nextFire - 2 * epochLength s.straps⟩]
              else s.schedule.declined } : State).post
          (.cancelled handle.toNat name e.state (stampOf s.straps e.nextFire) e.fired e.skipped
            e.remaining)).answered 0x42 1 .ok .nothing))

/-! ## Starts -/

/-- A power-on or RESETn start cuts off the beacon and the pulses, receives nothing, empties the schedule and holds
T at 0; RESETn falling in a power-on start leaves it one (R25, R139, R195, R196). That every other register keeps
its value until the start's end is log 14's reading. -/
def Obligations.StartsBegin : Prop :=
  ∀ s : State, ∀ begun : StartCause → State,
    (∀ cause, begun cause =
      { s with
        port.starting := some cause
        link.beacon := none
        link.reception := none
        schedule := ⟨List.replicate 16 none, List.replicate 4 ⟨0, false⟩, none, 1, []⟩
        timebase.time := 0 }) →
    exec .powerOn s = .next (begun .powerOn) ∧
    (s.port.starting = none → exec .resetnFall s = .next (begun .pin)) ∧
    ∀ cause, s.port.starting = some cause → exec .resetnFall s = .next (begun cause)

/-- The end of a start, by START_END or at once by RESTART: every block at its start values, the straps and levels
sampled, the start record in the holder; then invalid straps halt the station, and valid ones with AUTO high join
(R26, R27, R89, R90, R92, R93, R139, R140, R166, R177, R195, R197, R198). SDO has carried nothing since START_END
(log 18: the model's choice), and one byte of fill in the transaction of RESTART (R178). -/
def Obligations.StartsEnd : Prop :=
  ∀ (s : State) (c : Instr) (pins : Pins) (csnLow : Bool) (cause : StartCause),
    ((c = .startEnd pins csnLow ∧ s.port.starting = some cause) ∨
      (c = .restart pins ∧ s.takes = true ∧ cause = .command ∧ csnLow = false)) →
    ∀ u : State, u =
      { timebase :=
          { time := 0, high := 0, trim := 0, slewAmount := 0, slewBase := none, slewLeft := 0, residue := 0,
            periodLeft := 0 }
        link :=
          { seqMark := 0, heard := 0, beacon := none, overdriveRun := 0, completeRun := 0, reception := none,
            idleIn := 0 }
        peers := peersAfterStart cause pins.straps s.peers
        correction := { sticky := ⟨false, false, false, false, false⟩, log := [] }
        sync :=
          { state := .dormant, lastCause := .start, haltCause := none, lockRun := 0, unlockRun := 0,
            relockRun := 0, holdoverCount := 0, leavingCount := 0, listenDeadline := none, foreign := 0,
            alignSources := 0, holdLeft := false }
        schedule := ⟨List.replicate 16 none, List.replicate 4 ⟨0, false⟩, none, 1, []⟩
        capture := ⟨⟨pins.cap0, none⟩, ⟨pins.cap1, none⟩, []⟩
        port :=
          { starting := none, awaitCsHigh := csnLow, holder := ⟨0xFF, 0, .ok, .startCause cause⟩, serial := 0,
            sdo := if isRestart c = true then [0xFF] else [], config := ConfigStore.defaults, frozen := false,
            alerts := ⟨false, false, false, false, false⟩, mask := ⟨true, false, false, false, false⟩,
            enables := ⟨false, false, false, false, false⟩, startCause := cause, straps := pins.straps,
            holdLevel := pins.hold }
        pending := s.pending } →
    (strapsValid pins.straps = true → pins.straps.auto = false → exec c s = .next u) ∧
    (strapsValid pins.straps = false → exec c s = .next (u.changeState .halted .strap)) ∧
    (strapsValid pins.straps = true → pins.straps.auto = true →
      ∃ t, exec c s = .next t ∧ t.sync.state = .listen ∧ t.sync.lastCause = .joined ∧
        t.sync.listenDeadline = some (4 * epochLength pins.straps
          + ownNumber pins.straps * windowLength pins.straps) ∧
        t.port = { u.port with frozen := true, alerts := t.port.alerts } ∧ t.port.alerts.state = true ∧
        t.timebase = u.timebase ∧ t.schedule = u.schedule ∧ t.capture = u.capture ∧
        t.correction = u.correction ∧ t.peers = u.peers ∧ t.link = u.link)

/-- The peer table that a start forms (R44, R66, R67). -/
def Obligations.StartsFormThePeerTable : Prop :=
  ∀ (cause : StartCause) (straps : Straps) (old : List Peer),
    (peersAfterStart cause straps old).length = (if strapsValid straps = true then windows straps else 32) ∧
    ∀ j, j < (peersAfterStart cause straps old).length →
      (j = ownNumber straps → (peersAfterStart cause straps old)[j]? = some Peer.own) ∧
      (j ≠ ownNumber straps → cause = .powerOn ∨ strapsValid straps = false ∨ old.length ≤ j →
        (peersAfterStart cause straps old)[j]? = some Peer.fresh) ∧
      (∀ e, j ≠ ownNumber straps → cause ≠ .powerOn → strapsValid straps = true → old[j]? = some e →
        (e.state = .self → (peersAfterStart cause straps old)[j]? = some Peer.fresh) ∧
        (e.state = .excluded → (peersAfterStart cause straps old)[j]? = some
          { Peer.fresh with state := .excluded, frame := e.frame, outlier := e.outlier, view := e.view }) ∧
        (e.state = .absent ∨ e.state = .candidate ∨ e.state = .member →
          (peersAfterStart cause straps old)[j]? = some
            { Peer.fresh with frame := e.frame, outlier := e.outlier, view := e.view }))

/-! ## Capture -/

/-- An edge sets the level; selected and past the hold-off of 1,000 ns it restarts the hold-off and posts a CAPTURE
record (R167, R168, R169). That the edge is a fall from a level held high and a rise from one held low is log 20's
choice. -/
def Obligations.CaptureEdge : Prop :=
  ∀ (s : State) (input : Fin 2) (c : CaptureInput) (selection : EdgeSelection) (put : CaptureInput → State),
    s.port.starting = none →
    (input = 0 → c = s.capture.cap0 ∧ selection = s.port.config.edge0 ∧
      ∀ x, put x = { s with capture.cap0 := x }) →
    (input = 1 → c = s.capture.cap1 ∧ selection = s.port.config.edge1 ∧
      ∀ x, put x = { s with capture.cap1 := x }) →
    ∀ edge : Edge, edge = (if c.level = true then .fall else .rise) →
    ∀ selected : Prop,
      (selected ↔ selection = .both ∨ (selection = .rise ∧ edge = .rise) ∨ (selection = .fall ∧ edge = .fall)) →
    ∀ heldOff : Prop,
      (heldOff ↔ ∃ start, c.holdoffStart = some start ∧ start ≤ s.now ∧ s.now - start ≤ 999) →
    (¬ selected ∨ heldOff →
      exec (.capEdge input) s = .next (put { c with level := !c.level })) ∧
    (selected → ¬ heldOff →
      exec (.capEdge input) s = .next
        ((put { level := !c.level, holdoffStart := some s.now }).post
          (.capture input edge
            ⟨BitVec.ofNat 32 (s.now / epochLength s.straps), s.now % epochLength s.straps⟩ s.sync.state)))

/-! ## Frames -/

/-- A start-of-frame records the timing mark and the corrected mark while the receiver waits for one and no own beacon
is sent; after a frame the line is not idle at once (R8, R10, R20). That the row stands at
the leading edge, and how long the wait is, are log 25's choices. -/
def Obligations.StartOfFrameRecordsTheMarks : Prop :=
  ∀ s : State, s.port.starting = none →
    (s.link.reception = none → s.link.beacon = none → s.link.idleIn = 0 →
      exec .startOfFrame s = .next
        { s with link.reception := some ⟨s.now, (s.now : Int) - s.port.config.lineDelay⟩ }) ∧
    (s.link.reception ≠ none ∨ s.link.beacon ≠ none ∨ s.link.idleIn ≠ 0 → exec .startOfFrame s = .next s)

/-- Frames that reach no peer entry: none being received (log 6), any in DORMANT and HALTED (R20), an own-number
arrival (R15, R18, R19, R115), a stray (R15, R18, R105), a discarded frame (R15), and in LISTEN a frame that is
not a heard beacon or does not align (R19, R97). A timeout in LISTEN, or with its mark in no acceptance interval, is
such a frame (R8). That a frame with fewer than five field bits does not bear the own number is log 12's choice, and
how far idle is at the end (75 ns of T after a last bit 0, 100 after a last bit 1 or an error, 50 after no bit, 1 after
a timeout) that of logs 25 and 27. -/
def Obligations.FramesThatReachNoPeer : Prop :=
  (idleAfter [] false = 50 ∧ ∀ bits : List Bool, idleAfter bits true = 100 ∧
    idleAfter (bits ++ [false]) false = 75 ∧ idleAfter (bits ++ [true]) false = 100) ∧
  ∀ (s : State) (bits : List Bool) (inError : Bool), s.port.starting = none →
    (s.link.reception = none → exec (.frameEnd bits inError) s = .next s ∧ exec .receiveTimeout s = .next s) ∧
    ∀ r, s.link.reception = some r → ∀ u late : State,
      u = { s with
        link.reception := none, link.idleIn := idleAfter bits inError } →
      late = { s with link.reception := none, link.idleIn := 1 } →
      (s.sync.state = .dormant ∨ s.sync.state = .halted →
        exec (.frameEnd bits inError) s = .next u ∧ exec .receiveTimeout s = .next late) ∧
      (s.transmitting = true ∨ s.sync.state = .listen → inError = false → crcPasses bits = true →
        senderField (fieldBits bits) = some (ownNumber s.straps) →
        exec (.frameEnd bits inError) s = .next (u.changeState .halted .duplicate)) ∧
      (∀ b, s.transmitting = true → strapsValid s.straps = true → inError = false → crcPasses bits = true →
        validBeacon s.straps bits = some b → b.sender ≠ ownNumber s.straps →
        ¬ s.markInInterval b.sender r.correctedMark ∨
          resolveEpoch b.epoch (s.timebase.high / epochLength s.straps)
            ≠ s.timebase.high / epochLength s.straps →
        exec (.frameEnd bits inError) s = .next
          (if b.state = .leaving then u
          else { u with sync.foreign := s.sync.foreign ||| (1#32 <<< b.sender) })) ∧
      (s.transmitting = true → strapsValid s.straps = true →
        inError = true ∨ crcPasses bits = false ∨
          (senderField (fieldBits bits) ≠ some (ownNumber s.straps) ∧ validBeacon s.straps bits = none) →
        (∀ j, ¬ s.markInInterval j r.correctedMark) →
        exec (.frameEnd bits inError) s = .next u) ∧
      (s.transmitting = true → strapsValid s.straps = true → (∀ j, ¬ s.markInInterval j r.correctedMark) →
        exec .receiveTimeout s = .next late) ∧
      (s.sync.state = .listen → exec .receiveTimeout s = .next late) ∧
      (s.sync.state = .listen →
        inError = true ∨ crcPasses bits = false ∨
          (senderField (fieldBits bits) ≠ some (ownNumber s.straps) ∧
            ∀ b, validBeacon s.straps bits = some b → b.state = .leaving ∨
              (s.sync.alignSources ≠ 0 ∧ inSet s.sync.alignSources b.sender = false)) →
        exec (.frameEnd bits inError) s = .next u)

/-- A timeout, as a frame that fails its CRC, raises FRAME of the window's station by 4, stopping at 255; in the own
window it has no effect. It may trip a CANDIDATE or MEMBER into EXCLUDED, which raises MEMBERSHIP, evaluates the
arming of every PENDING entry, and in TRACK isolates the station that has lost its last MEMBER (R8, R15, R17, R57,
R59, R64, R103, R151). Every other bad frame has the same effect, and so has a second good beacon of one window epoch
(R16), but for how far idle is. That a frame with fewer than five field bits does
not bear the own number is log 12's choice, and how far idle is that of logs 25
and 27. -/
def Obligations.BadFramesRaiseFrame : Prop :=
  ∀ (s : State) (r : Reception) (j : Nat), s.port.starting = none → s.transmitting = true →
    strapsValid s.straps = true → s.link.reception = some r → s.markInInterval j r.correctedMark →
    (j = ownNumber s.straps → exec .receiveTimeout s = .next { s with link.reception := none, link.idleIn := 1 }) ∧
    (∀ e e' : Peer, j ≠ ownNumber s.straps → s.peers[j]? = some e → e.state ≠ .self →
      e' = { e with frame := min 255 (e.frame + 4) } →
      (e.state = .absent ∨ e.state = .excluded ∨
          (e'.frame < s.port.config.frameThreshold ∧ e.outlier < s.port.config.outlierThreshold ∧
            e.view < s.port.config.viewThreshold) →
        exec .receiveTimeout s = .next
          { s with link.reception := none, link.idleIn := 1, peers := s.peers.set j e' }) ∧
      (e.state = .candidate ∨ e.state = .member →
        s.port.config.frameThreshold ≤ e'.frame ∨ s.port.config.outlierThreshold ≤ e.outlier ∨
          s.port.config.viewThreshold ≤ e.view →
        ∀ u, u = ({ s with
            link.reception := none
            link.idleIn := 1
            port.alerts.membership := true
            peers := s.peers.set j { e' with state := .excluded, goodRun := 0 } } : State).evaluateArming →
          (s.sync.state ≠ .track ∨ e.state ≠ .member ∨ (∃ m, m ≠ j ∧ s.memberAt m) →
            exec .receiveTimeout s = .next u) ∧
          (s.sync.state = .track → e.state = .member → (∀ m, m ≠ j → ¬ s.memberAt m) →
            exec .receiveTimeout s = .next (u.changeState .holdover .isolated)))) ∧
    (∀ (bits : List Bool) (inError : Bool),
      inError = true ∨ crcPasses bits = false ∨
        (senderField (fieldBits bits) ≠ some (ownNumber s.straps) ∧ validBeacon s.straps bits = none) →
      ∃ t, exec .receiveTimeout s = .next t ∧ exec (.frameEnd bits inError) s =
        .next { t with link.idleIn := idleAfter bits inError }) ∧
    ∀ (bits : List Bool) (b : Beacon), crcPasses bits = true → validBeacon s.straps bits = some b →
      b.sender = j → j ≠ ownNumber s.straps → inSet s.link.heard j = true →
      resolveEpoch b.epoch (s.timebase.high / epochLength s.straps) = s.timebase.high / epochLength s.straps →
      ∃ t, exec .receiveTimeout s = .next t ∧
        exec (.frameEnd bits false) s = .next { t with link.idleIn := idleAfter bits false }

/-- A good beacon, the first of its sender in the window epoch and not LEAVING, is one arrival: content stored, lead
recorded, miss run cleared, attributes and good run updated, final state settled, a change reported, which in
TRACK isolates the station that has lost its last MEMBER (R16, R47, R49, R51 to R56, R59, R64, R103). One that
carries no offer still evaluates the arming of every PENDING entry (R151). How far idle is then is log 25's choice. -/
def Obligations.GoodBeaconIsAnArrival : Prop :=
  ∀ (s : State) (bits : List Bool) (r : Reception) (b : Beacon) (e : Peer) (n : Nat) (lead : Int),
    s.port.starting = none → s.transmitting = true → strapsValid s.straps = true →
    s.link.reception = some r → crcPasses bits = true → validBeacon s.straps bits = some b →
    b.sender ≠ ownNumber s.straps → s.markInInterval b.sender r.correctedMark →
    n = s.timebase.high / epochLength s.straps → resolveEpoch b.epoch n = n →
    inSet s.link.heard b.sender = false → s.peers[b.sender]? = some e → e.state ≠ .self → b.state ≠ .leaving →
    lead = ((n * epochLength s.straps + b.sender * windowLength s.straps + guardTime s.straps : Nat) : Int)
      - r.correctedMark →
    ∃ (t : State) (e' : Peer), exec (.frameEnd bits false) s = .next t ∧
      t.peers = s.peers.set b.sender e' ∧
      t.link = { s.link with
        reception := none, heard := s.link.heard ||| (1#32 <<< b.sender), idleIn := idleAfter bits false } ∧
      t.timebase = s.timebase ∧ t.correction = s.correction ∧
      t.port = { s.port with alerts := t.port.alerts } ∧
      arrivesAs s.port.config b n lead e e' ∧
      e'.view = (if s.sync.state = .track ∧ 8 ≤ s.link.completeRun ∧ e.state = .member ∧ b.state = .track ∧
          inSet b.view (ownNumber s.straps) = false then min 255 (e.view + 4) else e.view - 1) ∧
      (b.offer = none →
        t.sameScheduleAs ({ s with peers := s.peers.set b.sender e' } : State).evaluateArming) ∧
      t.port.alerts.membership = (s.port.alerts.membership || e.state != e'.state) ∧ s.sameBeside t ∧
      (s.sync.state ≠ .track ∨ e.state ≠ .member ∨ (∃ m, t.memberAt m) → t.sync = s.sync) ∧
      (s.sync.state = .track → e.state = .member → (∀ m, ¬ t.memberAt m) →
        t.sync.state = .holdover ∧ t.sync.lastCause = .isolated)

/-- The offer of an arrival is taken up when its sender is MEMBER after the arrival, the station is in TRACK or
HOLDOVER, the pair is neither held nor declined, a slot is free, the held count is below 4 and the target epoch is at
least the current epoch + 3: a SHARED entry in the lowest free slot. Otherwise the offer makes no entry. Then the
arming of every PENDING entry is evaluated, the new one's among them (R148, R149, R151). -/
def Obligations.OffersBecomePendingEntries : Prop :=
  ∀ (s t : State) (bits : List Bool) (r : Reception) (b : Beacon) (e : Peer) (o : Offer) (n epoch target : Nat)
      (name : Pair),
    s.port.starting = none → s.transmitting = true → strapsValid s.straps = true →
    s.link.reception = some r → crcPasses bits = true → validBeacon s.straps bits = some b →
    b.sender ≠ ownNumber s.straps → s.markInInterval b.sender r.correctedMark →
    n = s.timebase.high / epochLength s.straps → resolveEpoch b.epoch n = n →
    inSet s.link.heard b.sender = false → s.peers[b.sender]? = some e → e.state ≠ .self →
    b.state ≠ .leaving → b.offer = some o →
    epoch = resolveEpoch o.targetEpoch n → target = epoch * epochLength s.straps + o.targetPosition →
    name = ⟨b.sender, o.tag⟩ → exec (.frameEnd bits false) s = .next t →
    ∀ taken : Nat → Prop,
      (∀ h, taken h ↔ t.memberAt b.sender ∧ (s.sync.state = .track ∨ s.sync.state = .holdover) ∧
        (∀ (k : Nat) (x : Entry), k < 16 → s.holds k x → x.kind ≠ .shared name) ∧
        (∀ d ∈ s.schedule.declined, d.name ≠ name) ∧ s.isLowestFree h ∧ s.heldCount < 4 ∧
        s.now / epochLength s.straps + 3 ≤ epoch) →
      (∀ h, taken h → ∀ x : Entry,
        x = { kind := .shared name, state := .pending, nextFire := target, width := o.width, lines := o.lines,
              period := o.period, initialRepeats := o.repeats, remaining := o.repeats, fired := 0, skipped := 0,
              reportFires := true, deadline := some (target - 2 * epochLength s.straps), heldFlag := true } →
        (t.evidenceFor name →
          t.schedule.slots[h]? = some (some { x with state := .armed, deadline := none })) ∧
        (¬ t.evidenceFor name → t.schedule.slots[h]? = some (some x)) ∧
        (∀ k, k ≠ h → s.armsOnEvidence t k) ∧
        t.sameScheduleAs ({ s with
          peers := t.peers
          schedule.slots := s.schedule.slots.set h (some x) } : State).evaluateArming) ∧
      ((∀ h, ¬ taken h) → (∀ k, s.armsOnEvidence t k) ∧
        t.sameScheduleAs ({ s with peers := t.peers } : State).evaluateArming)

/-- A good beacon whose sender state is LEAVING makes a CANDIDATE or MEMBER ABSENT without penalty and sets the
last-heard epoch; MEMBERSHIP is raised, the arming of every PENDING entry evaluated, and in TRACK the station that
has lost its last MEMBER is isolated. An ABSENT or EXCLUDED entry takes the last-heard epoch alone (R46, R50, R64,
R103, R151). How far idle is then is log 25's choice. -/
def Obligations.LeavingBeaconMakesAbsent : Prop :=
  ∀ (s : State) (bits : List Bool) (r : Reception) (b : Beacon) (e : Peer) (n : Nat),
    s.port.starting = none → s.transmitting = true → strapsValid s.straps = true →
    s.link.reception = some r → crcPasses bits = true → validBeacon s.straps bits = some b →
    b.sender ≠ ownNumber s.straps → s.markInInterval b.sender r.correctedMark →
    n = s.timebase.high / epochLength s.straps → resolveEpoch b.epoch n = n →
    inSet s.link.heard b.sender = false → s.peers[b.sender]? = some e → b.state = .leaving →
    (e.state = .absent ∨ e.state = .excluded →
      exec (.frameEnd bits false) s = .next
        { s with
          link.reception := none
          link.idleIn := idleAfter bits false
          link.heard := s.link.heard ||| (1#32 <<< b.sender)
          peers := s.peers.set b.sender { e with lastHeard := some n } }) ∧
    (e.state = .candidate ∨ e.state = .member →
      ∀ u, u = ({ s with
          link.reception := none
          link.idleIn := idleAfter bits false
          link.heard := s.link.heard ||| (1#32 <<< b.sender)
          port.alerts.membership := true
          peers := s.peers.set b.sender
            { e with
              state := .absent, currentLead := none, goodRun := 0, reportedState := none, reportedView := none,
              held := [], offer := none, lastHeard := some n } } : State).evaluateArming →
        (s.sync.state ≠ .track ∨ e.state ≠ .member ∨ (∃ m, m ≠ b.sender ∧ s.memberAt m) →
          exec (.frameEnd bits false) s = .next u) ∧
        (s.sync.state = .track → e.state = .member → (∀ m, m ≠ b.sender → ¬ s.memberAt m) →
          exec (.frameEnd bits false) s = .next (u.changeState .holdover .isolated)))

/-- The aligning beacon in LISTEN: T and H take the value that puts its mark on its sender's send instant, the
residue and the slew are cleared and the trim kept, the station enters ACQUIRE with cause ALIGNED, and the same
frame is the first arrival with lead 0 (R6, R19, R36, R37, R55, R97, R98). The schedule takes the jump from T, firings
and expiries that T had reached first (log 8's reading), and the arming of every PENDING entry is evaluated at the
arrival (R38, R151). The premise on the time since the mark is the bound R36 gives; how far idle is then is log 25's
choice. -/
def Obligations.AligningBeaconSetsTime : Prop :=
  ∀ (s : State) (bits : List Bool) (r : Reception) (b : Beacon) (e : Peer) (n since : Nat),
    s.port.starting = none → s.sync.state = .listen → strapsValid s.straps = true →
    s.link.reception = some r → crcPasses bits = true → validBeacon s.straps bits = some b →
    b.sender ≠ ownNumber s.straps → b.state ≠ .leaving →
    s.sync.alignSources = 0 ∨ inSet s.sync.alignSources b.sender = true →
    n = resolveEpoch b.epoch (s.timebase.high / epochLength s.straps) →
    (s.now : Int) - r.correctedMark = since → since < 6 * guardTime s.straps →
    s.peers[b.sender]? = some e → e.state ≠ .self →
    ∀ new, new = n * epochLength s.straps + b.sender * windowLength s.straps + guardTime s.straps + since →
      new < 2 ^ 64 →
      ∃ (t : State) (e' : Peer), exec (.frameEnd bits false) s = .next t ∧
        t.timebase = { s.timebase with
          time := new, high := new, residue := 0, slewAmount := 0, slewBase := none, slewLeft := 0 } ∧
        t.sync = { s.sync with
          state := .acquire, lastCause := .aligned, lockRun := 0, unlockRun := 0, relockRun := 0,
          holdoverCount := 0, leavingCount := 0, listenDeadline := none, alignSources := 0 } ∧
        t.link = { s.link with
          seqMark := new, heard := 1#32 <<< b.sender, reception := none, idleIn := idleAfter bits false } ∧
        t.peers = s.peers.set b.sender e' ∧ arrivesAs s.port.config b n 0 e e' ∧ e'.view = e.view - 1 ∧
        t.port = { s.port with alerts := t.port.alerts } ∧ t.port.alerts.state = true ∧
        t.port.alerts.membership = (s.port.alerts.membership || e.state != e'.state) ∧
        t.port.alerts.event = s.port.alerts.event ∧ t.port.alerts.correction = s.port.alerts.correction ∧
        t.correction = s.correction ∧ t.capture.cap0 = s.capture.cap0 ∧ t.capture.cap1 = s.capture.cap1 ∧
        t.schedule.tagCounter = s.schedule.tagCounter ∧ t.pending = s.pending ∧
        t.sameScheduleAs ({ s.takeReached.jumpSchedule s.now new with
          peers := s.peers.set b.sender e' } : State).evaluateArming

/-! ## Own transmission -/

/-- The own send instant: in a transmitting state the beacon is built from the blocks as R21 gives and begins, a
frame being received is dropped (R20), and in LEAVING the leaving count goes up (R109); in any other state nothing
is built (R7). The held list is in the order of R13. That the leaving count stops at 2, and that a new beacon takes
the place of one in progress, are log 21's choices. -/
def Obligations.OwnBeaconIsBuiltAtItsInstant : Prop :=
  ∀ s : State, s.port.starting = none → strapsValid s.straps = true →
    s.atSendInstant (ownNumber s.straps) →
    (s.transmitting = false → exec .ownSendInstant s = .next { s with link.seqMark := s.now }) ∧
    (s.transmitting = true → ∃ (content : Beacon) (held : List (Nat × Pair)) (count : Nat),
      exec .ownSendInstant s = .next
        { s with
          sync.leavingCount := count
          link.seqMark := s.now
          link.reception := none
          link.beacon := some
            { content := content
              bits := frameBits content
              leavingOrdinal := if s.sync.state = .leaving then count else 0 } } ∧
      count = (if s.sync.state = .leaving then min 2 (s.sync.leavingCount + 1) else s.sync.leavingCount) ∧
      content.sender = ownNumber s.straps ∧
      content.state = (if s.sync.state = .acquire then .acquire
        else if s.sync.state = .track then .track
        else if s.sync.state = .holdover then .holdover else .leaving) ∧
      content.epoch = s.timebase.high / epochLength s.straps % 2 ^ 32 ∧
      (∀ j, j < 32 → (inSet content.view j = true ↔ j = ownNumber s.straps ∨ s.memberAt j)) ∧
      (s.sync.state = .leaving ∨ s.schedule.ownProposal = none → content.offer = none) ∧
      (∀ h name e, s.sync.state ≠ .leaving → s.schedule.ownProposal = some h → s.holdsPending h name e →
        content.offer = some
          { tag := name.tag, targetEpoch := e.nextFire / epochLength s.straps % 2 ^ 32,
            targetPosition := e.nextFire % epochLength s.straps, width := e.width, lines := e.lines,
            period := e.period, repeats := e.initialRepeats }) ∧
      (s.sync.state = .leaving → content.held = []) ∧
      (s.sync.state ≠ .leaving → content.held = held.map (·.2) ∧
        held.Pairwise (fun a b => a.1 < b.1 ∨ (a.1 = b.1 ∧ (a.2.proposer < b.2.proposer ∨
          (a.2.proposer = b.2.proposer ∧ a.2.tag ≤ b.2.tag)))) ∧
        ∀ time name, (time, name) ∈ held ↔ ∃ h e, h < 16 ∧ s.holds h e ∧ e.kind = .shared name ∧
          e.heldFlag = true ∧ e.nextFire = time))

/-- The ends of a beacon: cut by overdrive, with OVERDRIVEN at a run of 3, or sent whole; the second one begun in
LEAVING ends LEAVING (R23, R24, R26, R109, R116). No beacon in progress, no effect (log 6). -/
def Obligations.BeaconEnds : Prop :=
  ∀ s : State, s.port.starting = none →
    (s.link.beacon = none → exec .overdrive s = .next s ∧ exec .beaconSentWhole s = .next s) ∧
    ∀ b, s.link.beacon = some b →
      (∀ u, u = ({ s with link.beacon := none, link.overdriveRun := min 3 (s.link.overdriveRun + 1),
                          link.completeRun := 0 } : State) →
        (2 ≤ s.link.overdriveRun → s.transmitting = true →
          exec .overdrive s = .next (u.changeState .halted .overdriven)) ∧
        (s.link.overdriveRun < 2 → s.sync.state = .leaving → b.leavingOrdinal = 2 →
          exec .overdrive s = .next (u.changeState .dormant .left)) ∧
        (s.link.overdriveRun < 2 → s.sync.state ≠ .leaving ∨ b.leavingOrdinal ≠ 2 →
          exec .overdrive s = .next u)) ∧
      (∀ u, u = ({ s with link.beacon := none, link.overdriveRun := 0,
                          link.completeRun := min 255 (s.link.completeRun + 1) } : State) →
        (s.sync.state = .leaving → b.leavingOrdinal = 2 →
          exec .beaconSentWhole s = .next (u.changeState .dormant .left)) ∧
        (s.sync.state ≠ .leaving ∨ b.leavingOrdinal ≠ 2 → exec .beaconSentWhole s = .next u))

/-! ## Instants of T -/

/-- A window close: in a transmitting state a peer not heard takes a miss and loses its good run, and at the miss
limit a CANDIDATE or MEMBER becomes ABSENT, which raises MEMBERSHIP, evaluates the arming of every PENDING entry, and
in TRACK isolates the station that has lost its last MEMBER; no effect for a heard peer, the own window or any other
state (R7, R46, R58, R64, R103, R151). -/
def Obligations.WindowCloseJudgesThePeer : Prop :=
  ∀ (s : State) (j : Nat), s.port.starting = none → strapsValid s.straps = true → s.atWindowClose j →
    (s.transmitting = false ∨ j = ownNumber s.straps ∨ inSet s.link.heard j = true →
      exec .windowClose s = .next { s with link.seqMark := s.now }) ∧
    (∀ e miss, s.transmitting = true → j ≠ ownNumber s.straps → inSet s.link.heard j = false →
      s.peers[j]? = some e → e.state ≠ .self → miss = min 255 (e.missRun + 1) →
      (e.state = .absent ∨ e.state = .excluded ∨ miss < s.port.config.missLimit →
        exec .windowClose s = .next
          { s with link.seqMark := s.now, peers := s.peers.set j { e with missRun := miss, goodRun := 0 } }) ∧
      (e.state = .candidate ∨ e.state = .member → s.port.config.missLimit ≤ miss →
        ∀ u, u = ({ s with
            link.seqMark := s.now
            port.alerts.membership := true
            peers := s.peers.set j
              { e with
                missRun := miss, state := .absent, currentLead := none, goodRun := 0, reportedState := none,
                reportedView := none, held := [], offer := none } } : State).evaluateArming →
          (s.sync.state ≠ .track ∨ e.state ≠ .member ∨ (∃ m, m ≠ j ∧ s.memberAt m) →
            exec .windowClose s = .next u) ∧
          (s.sync.state = .track → e.state = .member → (∀ m, m ≠ j → ¬ s.memberAt m) →
            exec .windowClose s = .next (u.changeState .holdover .isolated))))

/-- An epoch close: outside the transmitting states the set of windows heard is emptied and nothing is computed; in
them one correction is made from the member leads in ascending station order, its flags join the sticky set and may
raise CORRECTION, its record takes age 0 of the log, its action is handed to the timebase, and every current lead
goes (R7, R29, R31, R34, R48, R69, R82, R83, R87). At a STEP the schedule takes the jump, firings and expiries that T
had reached first (log 8's reading), and a forward one settles the window instants that it passes: an own send instant
among them sets the complete-beacon run to 0 (R4, R26, R38). -/
def Obligations.EpochCloseMakesOneCorrection : Prop :=
  ∀ s : State, s.port.starting = none → s.atEpochClose →
    (s.transmitting = false →
      exec .epochClose s = .next { s with link.seqMark := s.now, link.heard := 0 }) ∧
    (s.transmitting = true → ∀ d, d = decideCorrection s.port.config s.sync.state s.timebase.trim
        (s.peers.filterMap (fun e => if e.state = .member then e.currentLead else none)) →
      ∃ t, exec .epochClose s = .next t ∧
        t.correction.log =
          (⟨s.now / epochLength s.straps - 1, s.sync.state, d.samples, d.effectiveTrim, d.correction, d.action,
            d.applied, d.trimAfter, d.flags, d.resultClass⟩ :: s.correction.log).take 16 ∧
        t.correction.sticky =
          { inexact := s.correction.sticky.inexact || d.flags.inexact
            empty := s.correction.sticky.empty || d.flags.empty
            reduced := s.correction.sticky.reduced || d.flags.reduced
            clamped := s.correction.sticky.clamped || d.flags.clamped
            saturated := s.correction.sticky.saturated || d.flags.saturated } ∧
        t.port.alerts.correction = (s.port.alerts.correction ||
          (d.flags.inexact && s.port.enables.inexact) || (d.flags.empty && s.port.enables.empty) ||
          (d.flags.reduced && s.port.enables.reduced) || (d.flags.clamped && s.port.enables.clamped) ||
          (d.flags.saturated && s.port.enables.saturated)) ∧
        t.link.heard = 0 ∧ t.sync.foreign = 0 ∧ (∀ e ∈ t.peers, e.currentLead = none) ∧
        (d.action = .none → t.timebase = s.timebase) ∧
        (d.action = .slew → t.timebase = { s.timebase with
          slewAmount := d.applied, slewBase := some s.now, slewLeft := d.applied, trim := d.trimAfter }) ∧
        (d.action = .step → ∀ b : Nat, (b : Int) = s.now + d.correction → b < 2 ^ 64 →
          t.timebase = { s.timebase with
            time := b, residue := 0, high := if 0 < d.correction then b else s.timebase.high }) ∧
        t.port = { s.port with alerts := t.port.alerts } ∧ t.capture.cap0 = s.capture.cap0 ∧
        t.capture.cap1 = s.capture.cap1 ∧ t.schedule.tagCounter = s.schedule.tagCounter ∧
        (t.sync.state ≠ .listen → t.peers = s.peers.map (fun e => { e with currentLead := none })) ∧
        (t.sync.state ≠ .listen → d.action ≠ .step → t.link = { s.link with seqMark := s.now, heard := 0 }) ∧
        (d.action ≠ .step → s.capture.queue <+: t.capture.queue ∧ t.schedule.lines = s.schedule.lines ∧
          t.schedule.declined = s.schedule.declined) ∧
        (d.action ≠ .step → t.sync.state = s.sync.state → t.schedule = s.schedule ∧ t.capture = s.capture) ∧
        (d.action = .step → ∀ b : Nat, (b : Int) = s.now + d.correction → b < 2 ^ 64 →
          t.sameScheduleAs (s.takeReached.jumpSchedule s.now b) ∧
          (d.correction ≤ 0 → t.sync.state ≠ .listen →
            t.link = { s.link with seqMark := s.now, heard := 0 }) ∧
          (0 < d.correction → strapsValid s.straps = true → b < s.now + epochLength s.straps →
            ∀ passed : Prop,
            (passed ↔ ∃ m, s.now < m * epochLength s.straps + ownNumber s.straps * windowLength s.straps
                + guardTime s.straps ∧
              m * epochLength s.straps + ownNumber s.straps * windowLength s.straps
                + guardTime s.straps ≤ b) →
            t.link.seqMark = b ∧ (passed → t.link.completeRun = 0) ∧
            (t.sync.state ≠ .listen → ¬ passed →
              t.link = { s.link with seqMark := b, heard := 0 }) ∧
            (t.sync.state ≠ .listen → passed →
              t.link = { s.link with seqMark := b, heard := 0, completeRun := 0 }))))

/-- A correction result at an epoch close: the merge test first, else the runs of the station state and the state
change they bring, with all that a state change does, the table cleared, the runs at 0 and PENDING entries abandoned
(R91, R100 to R102, R104, R106, R107, R157). The state that it changes is the one that the correction has left: at a
STEP the schedule has taken the jump (log 8's reading). -/
def Obligations.CorrectionResultMovesTheState : Prop :=
  ∀ (s t : State) (d : Decision), s.port.starting = none → s.atEpochClose → s.transmitting = true →
    d = decideCorrection s.port.config s.sync.state s.timebase.trim
      (s.peers.filterMap (fun e => if e.state = .member then e.currentLead else none)) →
    exec .epochClose s = .next t →
    (s.sync.state ≠ .leaving → s.mergeCalls →
      t.sync.state = .listen ∧ t.sync.lastCause = .merge ∧ t.sync.alignSources = s.sync.foreign ∧
        t.sync.listenDeadline = some t.listenUntil ∧ t.sync.lockRun = 0) ∧
    (s.sync.state = .leaving → t.sync = { s.sync with foreign := 0 }) ∧
    (s.sync.state = .acquire → ¬ s.mergeCalls →
      (d.correction.natAbs ≤ s.port.config.lockWindow → d.action ≠ .step → 7 ≤ s.sync.lockRun →
        t.sync.state = .track ∧ t.sync.lastCause = .locked ∧ t.sync.lockRun = 0) ∧
      (d.correction.natAbs ≤ s.port.config.lockWindow → d.action ≠ .step → s.sync.lockRun < 7 →
        t.sync = { s.sync with lockRun := s.sync.lockRun + 1, foreign := 0 }) ∧
      (s.port.config.lockWindow < d.correction.natAbs ∨ d.action = .step →
        t.sync = { s.sync with lockRun := 0, foreign := 0 })) ∧
    (s.sync.state = .track → ¬ s.mergeCalls →
      (s.port.config.unlockBound < d.correction.natAbs → 2 ≤ s.sync.unlockRun →
        t.sync.state = .holdover ∧ t.sync.lastCause = .unlocked ∧ t.sync.unlockRun = 0) ∧
      (s.port.config.unlockBound < d.correction.natAbs → s.sync.unlockRun < 2 →
        t.sync = { s.sync with unlockRun := s.sync.unlockRun + 1, foreign := 0 }) ∧
      (d.correction.natAbs ≤ s.port.config.unlockBound →
        t.sync = { s.sync with unlockRun := 0, foreign := 0 })) ∧
    (s.sync.state = .holdover → ¬ s.mergeCalls → ∀ run,
      run = (if 1 ≤ s.peers.countP (fun e => e.state == .member) ∧
        d.correction.natAbs ≤ s.port.config.lockWindow then s.sync.relockRun + 1 else 0) →
      (8 ≤ run → t.sync.state = .track ∧ t.sync.lastCause = .relocked) ∧
      (run < 8 → 1023 ≤ s.sync.holdoverCount →
        t.sync.state = .acquire ∧ t.sync.lastCause = .holdoverExpired) ∧
      (run < 8 → s.sync.holdoverCount < 1023 →
        t.sync = { s.sync with
          relockRun := run, holdoverCount := s.sync.holdoverCount + 1, foreign := 0 })) ∧
    ∃ u : State,
      u = { s with
        timebase := t.timebase
        correction := t.correction
        peers := s.peers.map (fun e => { e with currentLead := none })
        link.seqMark := u.link.seqMark
        link.heard := 0
        link.completeRun := u.link.completeRun
        schedule := u.schedule
        capture := u.capture
        port.alerts.overflow := u.port.alerts.overflow
        port.alerts.correction := t.port.alerts.correction } ∧
      (d.action ≠ .step → u.link.seqMark = s.now ∧ u.link.completeRun = s.link.completeRun ∧
        u.sameScheduleAs s) ∧
      (d.action = .step → ∀ b : Nat, (b : Int) = s.now + d.correction → b < 2 ^ 64 →
        u.sameScheduleAs (s.takeReached.jumpSchedule s.now b)) ∧
      (t.sync.state = s.sync.state → t = { u with sync := t.sync }) ∧
      (s.sync.state ≠ .leaving → s.mergeCalls →
        t = { u.changeState .listen .merge with
          sync.alignSources := s.sync.foreign, sync.listenDeadline := some t.listenUntil, sync.foreign := 0 }) ∧
      (¬ s.mergeCalls → t.sync.state ≠ s.sync.state →
        (s.sync.state = .acquire → t = { u.changeState .track .locked with sync.foreign := 0 }) ∧
        (s.sync.state = .track → t = { u.changeState .holdover .unlocked with sync.foreign := 0 }) ∧
        (s.sync.state = .holdover → t.sync.state = .track →
          t = { u.changeState .track .relocked with sync.foreign := 0 }) ∧
        (s.sync.state = .holdover → t.sync.state ≠ .track →
          t = { u.changeState .acquire .holdoverExpired with sync.foreign := 0 }))

/-- A slew point: a negative unit lowers the residue and leaves T; a positive one, with nothing else to be taken at T,
moves T on by 1 ns with H and the pulses, and the receiver's wait for idle (log 25), or raises a residue below 0; the
slew remaining moves towards 0 (R31, R32). Where T is not at
the slew point there is no effect (log 6). -/
def Obligations.SlewPointAppliesOneUnit : Prop :=
  ∀ s : State, s.port.starting = none →
    (∃ t, exec .slewPoint s = .next t) ∧ (s.nextSlewPoint ≠ some s.now → exec .slewPoint s = .next s) ∧
    ∀ base n : Nat, s.timebase.slewBase = some base → n = s.timebase.slewAmount.natAbs →
      s.now = base + (n - s.timebase.slewLeft.natAbs + 1) * epochLength s.straps / (n + 1) →
      (s.timebase.slewLeft < 0 →
        exec .slewPoint s = .next
          { s with timebase.slewLeft := s.timebase.slewLeft + 1,
                   timebase.residue := s.timebase.residue - 25000000 }) ∧
      (0 < s.timebase.slewLeft → 0 ≤ s.timebase.residue → s.onlySlewStands → s.now + 1 < 2 ^ 64 →
        exec .slewPoint s = .next
          { s with
            timebase.slewLeft := s.timebase.slewLeft - 1
            timebase.time := s.now + 1
            timebase.high := max s.timebase.high (s.now + 1)
            link.idleIn := s.link.idleIn - 1
            schedule.lines := s.schedule.lines.map
              (fun l => if l.active = true then { l with remaining := l.remaining - 1 } else l) }) ∧
      (0 < s.timebase.slewLeft → s.timebase.residue < 0 → s.onlySlewStands →
        exec .slewPoint s = .next
          { s with timebase.slewLeft := s.timebase.slewLeft - 1
                   timebase.residue := s.timebase.residue + 25000000 })

/-- An ARMED entry at its fire time fires: its lines pulse for the greater of what they have and width times 20 ns,
the counts move, the held-flag is cleared, the entry goes or moves on by period times E, and a FIRE record is
posted when report-fires is set (R123, R124, R126). A slot with nothing due has no effect (log 6). -/
def Obligations.FiringOnTime : Prop :=
  ∀ (s : State) (h : Fin 16), s.port.starting = none →
    ((∀ e, s.holds h e → e.state = .pending ∨ e.nextFire ≠ s.now) → exec (.triggerFire h) s = .next s) ∧
    ∀ e, s.holds h e → e.state = .armed → e.nextFire = s.now →
      ∀ u, u = ({ s with
        schedule.lines := s.schedule.lines.mapIdx (fun i l =>
          if e.lines.getLsbD i = true then ⟨max l.remaining (e.width * 20), true⟩ else l)
        schedule.slots := s.schedule.slots.set h
          (if e.remaining ≤ 1 then none
          else some { e with
            fired := e.fired + 1
            remaining := e.remaining - 1
            heldFlag := false
            nextFire := e.nextFire + e.period * epochLength s.straps }) } : State) →
      (e.reportFires = false → exec (.triggerFire h) s = .next u) ∧
      (e.reportFires = true → exec (.triggerFire h) s = .next
        (u.post (.fire h e.kind (stampOf s.straps e.nextFire) false e.skipped)))

/-- Jumps at the schedule. A backward one changes nothing (R131). At a forward one from a to b, an entry fires late
exactly when it is ARMED with its fire time in a+1 to b: its lines pulse for its full width, its FIRE record carries
the late flag and the skipped count, the records standing in ascending order of handle; of the repetitions passed the
first is fired and the others skipped, and an entry that stands moves to its first repetition after b. Declined
records that expire on the way go, and nothing else changes (R128 to R130, R161, R172). EPOCH_CLOSE with STEP and the
aligning FRAME_END make this jump (statements O39, O35). -/
def Obligations.JumpsAccountForEveryRepetition : Prop :=
  (∀ (s : State) (a b : Nat), b ≤ a → s.jumpSchedule a b = s) ∧
  (∀ (s : State) (a b h : Nat) (e : Entry), a < b → h < 16 → s.holds h e →
    (e.state = .pending ∨ e.nextFire ≤ a ∨ b < e.nextFire → (s.jumpSchedule a b).holds h e) ∧
    (e.state = .armed → a < e.nextFire → e.nextFire ≤ b →
      (s.jumpSchedule a b).schedule.slots[h]? = some (e.afterLateFire (epochLength s.straps) b))) ∧
  (∀ (epoch b : Nat) (e : Entry), 0 < epoch → e.nextFire ≤ b → 1 ≤ e.remaining →
    (e.period = 0 → e.afterLateFire epoch b = none) ∧
    (∀ j, 0 < e.period → j = 1 + (b - e.nextFire) / (e.period * epoch) →
      (e.remaining ≤ j → e.afterLateFire epoch b = none) ∧
      (j < e.remaining → ∃ e', e.afterLateFire epoch b = some e' ∧
        e' = { e with
          fired := e.fired + 1, skipped := e.skipped + (j - 1), remaining := e.remaining - j,
          heldFlag := false, nextFire := e.nextFire + j * (e.period * epoch) } ∧
        b < e'.nextFire ∧ e'.nextFire ≤ b + e.period * epoch))) ∧
  ∀ (s t : State) (a b : Nat), a < b → s.capture.queue.length ≤ 16 → t = s.jumpSchedule a b →
    t = { s.withRecords (s.lateRecords a b) with
      schedule.slots := t.schedule.slots
      schedule.lines := t.schedule.lines
      schedule.declined := s.schedule.declined.filter (fun d => decide (d.expiry ≤ a ∨ b < d.expiry)) } ∧
    (∀ h : Nat, 16 ≤ h ∨ s.schedule.slots[h]? = some none →
      t.schedule.slots[h]? = s.schedule.slots[h]?) ∧
    t.schedule.lines.length = s.schedule.lines.length ∧
    ∀ (i : Nat) (l : Line), s.schedule.lines[i]? = some l →
      ∀ pulses : List Nat, pulses = ((s.passedEntries a b).filter (fun p => p.2.lines.getLsbD i)).map
          (fun p => p.2.width * 20) →
        t.schedule.lines[i]? = some ⟨pulses.foldl max l.remaining, l.active || !pulses.isEmpty⟩

/-- A PENDING entry whose arming is evaluated becomes ARMED without a deadline when the arming condition holds: the own
proposal ends if it was that, and an ARMED record with the member view is posted; otherwise nothing changes. Where the
arming of all is evaluated, every PENDING entry with its evidence arms, their records stand in ascending order of
handle, and nothing else changes (R150, R151, R153, R172). One still PENDING at its deadline is abandoned: its slot
freed, the own proposal ended if it was that, and an ABANDONED record posted with reason DEADLINE and the missing set
(R156). A slot with no deadline due has no effect (log 6). -/
def Obligations.PendingEntriesArmOrAreAbandoned : Prop :=
  (∀ (s : State) (h : Nat) (name : Pair) (e : Entry), s.holdsPending h name e →
      (¬ s.evidenceFor name → s.evaluateSlot h = s) ∧
      (s.evidenceFor name → ∃ view : StationSet,
        (∀ m, m < 32 → (inSet view m = true ↔ s.memberAt m)) ∧
        s.evaluateSlot h =
          ({ s with
              schedule.slots := s.schedule.slots.set h (some { e with state := .armed, deadline := none })
              schedule.ownProposal :=
                if s.schedule.ownProposal = some h then none else s.schedule.ownProposal } : State).post
            (.armed h name (stampOf s.straps e.nextFire) view))) ∧
  (∀ (s : State) (name : Pair), s.armingHolds name = true ↔ s.evidenceFor name) ∧
  (∀ s t : State, s.capture.queue.length ≤ 16 → t = s.evaluateArming →
    t = { s.withRecords s.armedRecords with
      schedule.slots := t.schedule.slots
      schedule.ownProposal := t.schedule.ownProposal } ∧
    (∀ h, s.armsOnEvidence t h) ∧
    ∀ armed : Nat → Prop,
      (∀ h, armed h ↔ h < 16 ∧ ∃ name e, s.holdsPending h name e ∧ s.evidenceFor name) →
      (∀ h, s.schedule.ownProposal = some h → armed h → t.schedule.ownProposal = none) ∧
      ((∀ h, s.schedule.ownProposal = some h → ¬ armed h) →
        t.schedule.ownProposal = s.schedule.ownProposal)) ∧
  ∀ (s : State) (h : Fin 16), s.port.starting = none →
    ((∀ name e, s.holdsPending h name e → e.deadline ≠ some s.now) → exec (.sharedDeadline h) s = .next s) ∧
    ∀ name e, s.holdsPending h name e → e.deadline = some s.now →
      ∃ missing : StationSet,
        (∀ m, m < 32 → (inSet missing m = true ↔
          (∃ q, s.peers[m]? = some q ∧ q.state = .member ∧ name ∉ q.held) ∨
            (m = name.proposer ∧ name.proposer ≠ ownNumber s.straps ∧ ¬ s.memberAt name.proposer))) ∧
        exec (.sharedDeadline h) s = .next
          (({ s with
              schedule.slots := s.schedule.slots.set h none
              schedule.ownProposal :=
                if s.schedule.ownProposal = some h.val then none else s.schedule.ownProposal } : State).post
            (.abandoned h name (stampOf s.straps e.nextFire) .deadline missing))

/-- The listen deadline founds (R99), a declined record goes at its expiry (R161), and a line whose remaining active
time is 0 becomes inactive (R124). None of them acts when it is not due (log 6); that one row takes every record that
expires at T is log 19's choice, and that the active flag falls at PULSE_END log 9's reading. The pin of a line drives
its configured active level while the line is active, the other level while it is not, and low during a start (R125,
R196). -/
def Obligations.DeadlineExpiryAndPulseEnd : Prop :=
  (∀ s : State, s.port.starting = none →
    (s.sync.state = .listen → s.sync.listenDeadline = some s.now →
      exec .listenDeadline s = .next (s.changeState .acquire .founded)) ∧
    (s.sync.state ≠ .listen ∨ s.sync.listenDeadline ≠ some s.now → exec .listenDeadline s = .next s) ∧
    exec .declinedExpiry s = .next
      { s with schedule.declined := s.schedule.declined.filter (fun d => d.expiry != s.now) } ∧
    (∀ (l : Fin 4) (x : Line), s.schedule.lines[l.val]? = some x →
      (x.remaining = 0 → exec (.pulseEnd l) s = .next
        { s with schedule.lines := s.schedule.lines.set l { x with active := false } }) ∧
      (0 < x.remaining → exec (.pulseEnd l) s = .next s))) ∧
  ∀ (s : State) (l : Fin 4) (x : Line) (level : ActiveLevel), s.schedule.lines[l.val]? = some x →
    [s.port.config.level0, s.port.config.level1, s.port.config.level2, s.port.config.level3][l.val]?
      = some level →
    (s.trgHigh l = true ↔ s.port.starting = none ∧ (x.active = true ↔ level = .high))

/-- A reference period with no instant in its way adds exactly 40 + R/25,000,000 ns to T and the residue together, in
whole ns to T, and H and the pulses follow, and the receiver's wait for idle (log 25); stopped after k ns it leaves the
rest in progress (R28, R30, R124; log 5). Where instants stand at a value of T that it must leave, they are taken in
the order of log 3, as their rows take them, before any more of the period elapses; those that stand at T as a period
begins are taken before it begins, so that the period has the trim that an epoch close among them gives (R3, R29, R30,
R34). -/
def Obligations.ReferencePeriodAddsExactly : Prop :=
  (∀ (s : State) (total n : Nat), s.port.starting = none → s.timebase.periodLeft = 0 →
    -200000 ≤ s.timebase.trim → s.timebase.trim ≤ 200000 → -25000000 ≤ s.timebase.residue →
    (total : Int) = s.timebase.residue + 40 * 25000000 + s.timebase.trim → n = total / 25000000 →
    s.now + n < 2 ^ 64 → (∀ d, d < n → s.dueIn d = false) →
    (total % 25000000 = 0 ∨ s.dueIn n = false →
      exec (.referencePeriod none) s = .next
        { s with
          timebase.time := s.now + n
          timebase.high := max s.timebase.high (s.now + n)
          link.idleIn := s.link.idleIn - n
          timebase.residue := ((total % 25000000 : Nat) : Int)
          timebase.periodLeft := 0
          schedule.lines := s.schedule.lines.map
            (fun l => if l.active = true then { l with remaining := l.remaining - n } else l) }) ∧
    ∀ k, 1 ≤ k → k < n →
      exec (.referencePeriod (some k)) s = .next
        { s with
          timebase.time := s.now + k
          timebase.high := max s.timebase.high (s.now + k)
          link.idleIn := s.link.idleIn - k
          timebase.residue := 0
          timebase.periodLeft := total - k * 25000000
          schedule.lines := s.schedule.lines.map
            (fun l => if l.active = true then { l with remaining := l.remaining - k } else l) }) ∧
  (∀ s : State, s.port.starting = none → s.schedule.lines.length = 4 → s.settle = afterRows settlingRows s) ∧
  (∀ s : State, s.port.starting = none → s.timebase.periodLeft = 0 → s.dueIn 0 = true →
    s.settle.dueIn 0 = false →
    exec (.referencePeriod none) s = exec (.referencePeriod none) s.settle) ∧
  ∀ (s v w : State) (total n d rest : Nat), s.port.starting = none → s.timebase.periodLeft = 0 →
    -200000 ≤ s.timebase.trim → s.timebase.trim ≤ 200000 → -25000000 ≤ s.timebase.residue →
    (total : Int) = s.timebase.residue + 40 * 25000000 + s.timebase.trim → n = total / 25000000 →
    1 ≤ d → d ≤ n → d * 25000000 < total → s.now + n < 2 ^ 64 → (∀ i, i < d → s.dueIn i = false) →
    s.dueIn d = true →
    v = { s with
      timebase.time := s.now + d
      timebase.high := max s.timebase.high (s.now + d)
      link.idleIn := s.link.idleIn - d
      timebase.residue := 0
      timebase.periodLeft := total - d * 25000000
      schedule.lines := s.schedule.lines.map
        (fun l => if l.active = true then { l with remaining := l.remaining - d } else l) } →
    w = v.settle → (rest : Int) = w.timebase.residue + w.timebase.periodLeft →
    w.timebase.periodLeft = total - d * 25000000 →
    w.now + rest / 25000000 < 2 ^ 64 → (∀ i, i ≤ rest / 25000000 → w.dueIn i = false) →
    exec (.referencePeriod none) s = .next
      { w with
        timebase.time := w.now + rest / 25000000
        timebase.high := max w.timebase.high (w.now + rest / 25000000)
        link.idleIn := w.link.idleIn - rest / 25000000
        timebase.residue := ((rest % 25000000 : Nat) : Int)
        timebase.periodLeft := 0
        schedule.lines := w.schedule.lines.map
          (fun l => if l.active = true then { l with remaining := l.remaining - rest / 25000000 } else l) }

/-! ## The correction arithmetic -/

/-- The four rounding modes (R72), and that a rounded mean of values within the guard stays within it (R73). -/
def Obligations.RoundedMeanStaysWithinTheGuard : Prop :=
  (∀ (num : Int) (den : Nat), 0 < den →
    (∀ q, q = roundQuotient .down num den → q * den ≤ num ∧ num < (q + 1) * den) ∧
    (∀ q, q = roundQuotient .up num den → num ≤ q * den ∧ (q - 1) * den < num) ∧
    (∀ q, q = roundQuotient .towardZero num den →
      (0 ≤ num → 0 ≤ q ∧ q * den ≤ num ∧ num < (q + 1) * den) ∧
      (num < 0 → q ≤ 0 ∧ num ≤ q * den ∧ (q - 1) * den < num)) ∧
    (∀ q, q = roundQuotient .nearestEven num den →
      2 * (num - q * den).natAbs ≤ den ∧ (2 * (num - q * den).natAbs = den → q % 2 = 0))) ∧
  ∀ (config : ConfigStore) (state : StationState) (trim : Int) (leads : List Int) (guard : Nat),
    (∀ l ∈ leads, l.natAbs ≤ guard) →
      (decideCorrection config state trim leads).correction.natAbs ≤ guard

/-- What one correction decides from its rounded mean: the sample count and effective trim (R70, R71), the action
(R74), the amount applied (R75, R76, R79), the new rate trim rounded once and saturated (R77, R78), and the flags
(R80). -/
def Obligations.DecisionFollowsTheMean : Prop :=
  ∀ (config : ConfigStore) (state : StationState) (trim : Int) (leads : List Int) (d : Decision),
    d = decideCorrection config state trim leads →
    d.samples = leads.length + 1 ∧ d.effectiveTrim = min config.trimCount (leads.length / 2) ∧
    d.action = (if state = .acquire then
        (if config.stepThreshold < d.correction.natAbs then .step else .slew)
      else if state = .track then .slew else .none) ∧
    (d.action = .step → d.applied = d.correction ∧ d.trimAfter = trim) ∧
    (d.action = .none → d.applied = 0 ∧ d.trimAfter = trim) ∧
    (d.action = .slew → d.applied = max (-(config.slewMax : Int)) (min config.slewMax d.correction) ∧
      d.trimAfter = max (-200000) (min 200000
        (roundQuotient config.rounding (64 * trim + d.correction * config.gain) 64))) ∧
    (d.flags.empty = true ↔ leads = []) ∧ (d.flags.reduced = true ↔ d.effectiveTrim < config.trimCount) ∧
    (d.flags.clamped = true ↔ d.action = .slew ∧ d.applied ≠ d.correction) ∧
    (d.flags.saturated = true ↔ d.action = .slew ∧
      d.trimAfter ≠ roundQuotient config.rounding (64 * trim + d.correction * config.gain) 64) ∧
    (∃ kept : List Int, kept.length = d.samples - 2 * d.effectiveTrim ∧
      (∃ low high : List Int, low.length = d.effectiveTrim ∧ high.length = d.effectiveTrim ∧
        (low ++ kept ++ high).Perm (0 :: leads) ∧ (low ++ kept ++ high).Pairwise (· ≤ ·)) ∧
      d.correction = roundQuotient config.rounding kept.sum kept.length ∧
      (d.flags.inexact = true ↔ kept.sum % kept.length ≠ 0 ∨
        (d.action = .slew ∧ (64 * trim + d.correction * config.gain) % 64 ≠ 0)))

/-- The result class is the class of c as rounded: NEGATIVE below 0, ZERO at 0, POSITIVE above 0, written into the
record of the close (R81). -/
def Obligations.ResultClassIsTheSignOfC : Prop :=
  (∀ (config : ConfigStore) (state : StationState) (trim : Int) (leads : List Int) (d : Decision),
    d = decideCorrection config state trim leads →
      (d.correction < 0 → d.resultClass = .negative) ∧ (d.correction = 0 → d.resultClass = .zero) ∧
        (0 < d.correction → d.resultClass = .positive)) ∧
  ∀ (epoch : Nat) (state : StationState) (d : Decision),
    (State.logRecord epoch state d).resultClass = d.resultClass

/-! ## Encodings -/

/-- The bytes sent for a command are read back as that command, with any bytes behind them ignored; fewer bytes are
discarded; a RESPONSE code is a response transaction; on SDI every byte travels most significant bit first, and a
partial last byte counts as not received (R178, R179, R202, 10.5). The split of LEAVE's mode byte over two rows is
log 10's choice, the relation of bytes to rows log 15's. -/
def Obligations.TransactionRoundTrip : Prop :=
  (∀ (pins : Pins) (c : Instr) (bytes extra : List Byte), wellFormed c = true →
    encodeTransaction c = some bytes → (∀ sampled, c = .restart sampled → sampled = pins) →
    decodeTransaction pins (bytes ++ extra) = c ∧
      ∀ n, n < bytes.length → decodeTransaction pins (bytes.take n) = .transactionDiscarded n) ∧
  (∀ (pins : Pins) (extra : List Byte),
    decodeTransaction pins (0x00 :: extra) = .response extra.length) ∧
  (∀ b : Byte, byteBits b = [b.getLsbD 7, b.getLsbD 6, b.getLsbD 5, b.getLsbD 4, b.getLsbD 3, b.getLsbD 2,
    b.getLsbD 1, b.getLsbD 0]) ∧
  (∀ (bytes : List Byte) (part : List Bool), part.length < 8 →
    wholeBytes (bytes.flatMap byteBits ++ part) = bytes) ∧
  (∀ (pins : Pins) (c : Instr) (bytes extra : List Byte) (part : List Bool), wellFormed c = true →
    encodeTransaction c = some bytes → (∀ sampled, c = .restart sampled → sampled = pins) → part.length < 8 →
    decodeSpi pins ((bytes ++ extra).flatMap byteBits ++ part) = c ∧
      ∀ n, n < 8 * bytes.length →
        decodeSpi pins ((bytes.flatMap byteBits).take n) = .transactionDiscarded (n / 8)) ∧
  ∀ (pins : Pins) (extra : List Byte) (part : List Bool), part.length < 8 →
    decodeSpi pins ((0x00 :: extra).flatMap byteBits ++ part)
      = .response (extra.length + if part = [] then 0 else 1)

/-- A beacon whose fields fit their widths is read back from its bits field by field; its frame passes the CRC, and it
is valid to a receiver exactly when its fields are (R9, R14, R199, R200). On the line a frame is 4 bit times of
dominant and then its bits, 0 as dominant and recessive, 1 as recessive and dominant; followed by the idle line its
halves are read back as the end of a frame with these bits; a half that reads as neither level ends it in error, and
254 bit times without idle bring the timeout. The receiver takes a frame only from idle, after a dominant run of 3 bit
times; a shorter run is noise, bits are decoded from 4 bit times after the mark on, and after a frame in error it waits
for idle. A start-of-frame stands at its leading edge, and a frame's end at the end of its last bit, 3 or 4 halves
before the line is idle (R8, R10, R21, R23, R199); the end of a frame without a bit is log 27's choice. That a half
that reads as neither level ends a run from idle is log 26's choice. That two like halves that are not the idle line
end a frame in error is log 24's choice. -/
def Obligations.BeaconRoundTrip : Prop :=
  (∀ (straps : Straps) (b : Beacon), b.sender < 32 → b.epoch < 2 ^ 32 → b.held.length ≤ 4 →
    (∀ p ∈ b.held, p.proposer < 32 ∧ p.tag < 256) →
    (∀ o, b.offer = some o → o.tag < 256 ∧ o.targetEpoch < 2 ^ 32 ∧ o.targetPosition < 2 ^ 24 ∧
      o.width < 4096 ∧ o.period < 4096 ∧ o.repeats < 4096) →
    parseFields (beaconFieldBits b) = some b ∧ fieldBits (frameBits b) = beaconFieldBits b ∧
      crcPasses (frameBits b) = true ∧
      (frameBits b).length = 91 + (if b.offer.isSome then 104 else 0) + 13 * b.held.length ∧
      validBeacon straps (frameBits b) =
        (if beaconValid (windows straps) (epochLength straps) b = true then some b else none)) ∧
  (bitHalves false = [.dominant, .recessive] ∧ bitHalves true = [.recessive, .dominant] ∧
    ∀ bits, lineHalves bits = List.replicate 8 .dominant ++ bits.flatMap bitHalves) ∧
  (∀ (bits : List Bool) (more : List Half), bits.length ≤ 248 →
    frameRow (bits.flatMap bitHalves ++ List.replicate 4 .recessive ++ more) = some (.frameEnd bits false)) ∧
  (∀ (bits : List Bool) (more : List Half), bits.length ≤ 249 →
    frameRow (bits.flatMap bitHalves ++ .unclear :: more) = some (.frameEnd bits true) ∧
    frameRow (bits.flatMap bitHalves ++ .dominant :: .dominant :: more) = some (.frameEnd bits true) ∧
    frameRow (bits.flatMap bitHalves ++ .recessive :: .recessive :: .dominant :: more)
      = (if bits.length = 249 then some .receiveTimeout else some (.frameEnd bits true))) ∧
  (∀ (bits : List Bool) (more : List Half), 250 ≤ bits.length →
    frameRow (bits.flatMap bitHalves ++ more) = some .receiveTimeout) ∧
  (∀ (s : State) (b : OwnBeacon), s.link.beacon = some b → ∀ i : Nat,
    (i < 8 → s.drivenHalf i = .dominant ∧ s.readsBack i = false) ∧
    (8 + 2 * b.bits.length ≤ i → s.drivenHalf i = .recessive ∧ s.readsBack i = false) ∧
    ∀ (j : Nat) (bit : Bool), b.bits[j]? = some bit →
      (i = 8 + 2 * j → s.drivenHalf i = (if bit = true then .recessive else .dominant) ∧
        s.readsBack i = bit) ∧
      (i = 8 + 2 * j + 1 → s.drivenHalf i = (if bit = true then .dominant else .recessive) ∧
        s.readsBack i = !bit)) ∧
  (∀ bits : List Bool, bits.length ≤ 248 →
    (Watch.waiting 4).rows (lineHalves bits ++ List.replicate 4 .recessive)
      = [.startOfFrame, .frameEnd bits false]) ∧
  (∀ (passed quiet : Nat) (bits : List Bool), bits.length ≤ 248 →
    (Watch.waiting 4).rowsAt passed (lineHalves bits ++ List.replicate quiet .recessive)
      = (passed, .startOfFrame) ::
        (if (if bits.getLast? = some false then 3 else 4) ≤ quiet
          then [(passed + 8 + 2 * bits.length, .frameEnd bits false)] else [])) ∧
  (∀ passed run : Nat, 6 ≤ run → run ≤ 8 →
    (Watch.waiting 4).rowsAt passed (List.replicate run .dominant ++ List.replicate 4 .recessive)
      = [(passed, .startOfFrame), (passed + 8, .frameEnd [] false)]) ∧
  (∀ n quiet : Nat, n ≤ 4 → 4 ≤ quiet →
    (Watch.waiting n).rows (List.replicate quiet .recessive) = [] ∧
    ∀ run : Nat, ∀ more : List Half,
      (1 ≤ run → run ≤ 5 → (Watch.waiting n).rows
        (List.replicate quiet .recessive ++ List.replicate run .dominant ++ .recessive :: more)
          = (Watch.waiting 1).rows more) ∧
      (6 ≤ run → (Watch.waiting n).rows (List.replicate quiet .recessive ++ List.replicate run .dominant ++ more)
        = .startOfFrame :: (Watch.leadIn 6 0).rows (List.replicate (run - 6) .dominant ++ more))) ∧
  (∀ (run : Nat) (more : List Half), 6 ≤ run → run ≤ 8 →
    (Watch.waiting 4).rows (List.replicate run .dominant ++ List.replicate 4 .recessive ++ more)
      = .startOfFrame :: .frameEnd [] false :: (Watch.waiting 4).rows more) ∧
  (∀ (run : Nat) (bits : List Bool), 6 ≤ run → run ≤ 8 → bits.length ≤ 248 →
    (Watch.waiting 4).rows (List.replicate run .dominant ++ List.replicate (8 - run) .recessive
      ++ bits.flatMap bitHalves ++ List.replicate 4 .recessive) = [.startOfFrame, .frameEnd bits false]) ∧
  (∀ (n run : Nat) (more : List Half), n < 4 → 1 ≤ run → (Watch.waiting n).rows
    (List.replicate run .dominant ++ .recessive :: more) = (Watch.waiting 1).rows more) ∧
  (∀ (w : Watch) (more : List Half),
    w = .waiting 4 ∨ (∃ run, w = .dominantRun run) → w.rows (.unclear :: more) = (Watch.waiting 0).rows more) ∧
  ∀ (quiet : Nat) (read more : List Half) (h : Half) (bits : List Bool), frameRowAfter quiet read = none →
    frameRowAfter quiet (read ++ [h]) = some (.frameEnd bits true) →
    h ≠ .recessive ∧ (Watch.frame quiet read).rows (h :: more) = .frameEnd bits true :: (Watch.waiting 0).rows more

/-- A 32-bit epoch is resolved to the nearest epoch number with those low 32 bits, the later of two equally near
(R40). -/
def Obligations.EpochsResolveToTheNearest : Prop :=
  ∀ v r : Nat, v < 2 ^ 32 → resolveEpoch v r % 2 ^ 32 = v ∧
    ∀ x : Nat, x % 2 ^ 32 = v → x ≠ resolveEpoch v r →
      ((resolveEpoch v r : Int) - r).natAbs < ((x : Int) - r).natAbs ∨
        (((resolveEpoch v r : Int) - r).natAbs = ((x : Int) - r).natAbs ∧ x < resolveEpoch v r)

/-! ## What every step keeps -/

/-- Outside the starts and the rows in which T runs, T and H move at an epoch close in ACQUIRE and at a frame's end in
LISTEN, and nowhere else (R34, R35, R36). -/
def Obligations.OnlyTheNamedRowsMoveTime : Prop :=
  ∀ (c : Instr) (s t : State), exec c s = .next t → isRestart c = false → isStartRow c = false →
    runsTime c = false → (c = .epochClose → s.sync.state ≠ .acquire) →
    (∀ bits inError, c = .frameEnd bits inError → s.sync.state ≠ .listen) →
    t.timebase.time = s.timebase.time ∧ t.timebase.high = s.timebase.high

/-- A SHARED entry becomes ARMED only at an event after which its proposer is the own station or a MEMBER, and every
MEMBER lists it in its stored held list (R152). The rows in which T runs are left out, since they take several
events. -/
def Obligations.ArmedOnlyOnEvidence : Prop :=
  ∀ (c : Instr) (s t : State) (h : Nat) (e : Entry) (name : Pair), exec c s = .next t → runsTime c = false →
    t.holds h e → e.state = .armed → e.kind = .shared name →
    (∀ e₀, s.holds h e₀ → e₀.kind = .shared name → e₀.state ≠ .armed) → t.evidenceFor name

/-- Every step keeps the bounded lists within their bounds, T at most H, both below 2^64, the rate trim in its range
and every configuration parameter in its range (R27, R29, R30, R86, R118, R124, R161, R171, R185). -/
def Obligations.StepKeepsRanges : Prop :=
  ∀ s t : State, s.capacitiesHold → s.timeHolds → s.configHolds → step s = .next t →
    t.capacitiesHold ∧ t.timeHolds ∧ t.configHolds

/-- Every step keeps fired + skipped + remaining equal to the initial repeats, with at least one repetition to come,
for every entry (R126). -/
def Obligations.StepKeepsRepetitionAccounting : Prop :=
  ∀ s t : State, s.accountingHolds → step s = .next t → t.accountingHolds

/-- Every step keeps PENDING entries SHARED, with their deadline, in TRACK and HOLDOVER alone, and the own proposal
PENDING (R119, R145, R155, R157). -/
def Obligations.StepKeepsAgreement : Prop :=
  ∀ s t : State, s.agreementHolds → step s = .next t → t.agreementHolds

/-- Every step keeps the peer table and the station state in accord: no CANDIDATE or MEMBER, no current lead and no
foreign station outside the transmitting states, SELF at the own number alone, a listen deadline in LISTEN alone
(R44, R48, R63, R65, R91, R96). -/
def Obligations.StepKeepsGroupInAccord : Prop :=
  ∀ s t : State, s.groupHolds → step s = .next t → t.groupHolds

/-- Every step keeps what a JOIN established and what a trip guards: joined states are frozen with bounds that fit
the guard, no CANDIDATE or MEMBER stands at a threshold, and every lead lies within the guard (R16, R59, R94, R95,
R185, R187). -/
def Obligations.StepKeepsJoinedBounds : Prop :=
  ∀ s t : State, s.groupHolds → s.configHolds → s.joinedHolds → s.thresholdsHold → s.leadsHold →
    step s = .next t → t.joinedHolds ∧ t.thresholdsHold ∧ t.leadsHold

/-- The state after reset meets every invariant. -/
def Obligations.ResetMeetsTheInvariants : Prop :=
  State.reset.capacitiesHold ∧ State.reset.timeHolds ∧ State.reset.configHolds ∧
    State.reset.accountingHolds ∧ State.reset.agreementHolds ∧ State.reset.groupHolds ∧
    State.reset.joinedHolds ∧ State.reset.thresholdsHold ∧ State.reset.leadsHold
end

