-- ==== Sys2Proof/Laws/State.lean ====
section
/-!
SUPPORT. Laws/State.lean: what each named update of State leaves and writes, one lemma per field, true by rfl and
tagged simp, so that no later proof unfolds a record update. The name is the operation's and the field's.
-/
namespace Sys2Proof.Machine

/-! ## Alerts (R188) -/

@[simp] theorem State.raiseState_timebase (s : State) : (s.raiseState).timebase = s.timebase := rfl
@[simp] theorem State.raiseState_link (s : State) : (s.raiseState).link = s.link := rfl
@[simp] theorem State.raiseState_peers (s : State) : (s.raiseState).peers = s.peers := rfl
@[simp] theorem State.raiseState_correction (s : State) : (s.raiseState).correction = s.correction := rfl
@[simp] theorem State.raiseState_sync (s : State) : (s.raiseState).sync = s.sync := rfl
@[simp] theorem State.raiseState_schedule (s : State) : (s.raiseState).schedule = s.schedule := rfl
@[simp] theorem State.raiseState_capture (s : State) : (s.raiseState).capture = s.capture := rfl
@[simp] theorem State.raiseState_pending (s : State) : (s.raiseState).pending = s.pending := rfl
@[simp] theorem State.raiseState_port (s : State) :
    (s.raiseState).port = { s.port with alerts.state := true } := rfl

@[simp] theorem State.raiseMembership_timebase (s : State) : (s.raiseMembership).timebase = s.timebase := rfl
@[simp] theorem State.raiseMembership_link (s : State) : (s.raiseMembership).link = s.link := rfl
@[simp] theorem State.raiseMembership_peers (s : State) : (s.raiseMembership).peers = s.peers := rfl
@[simp] theorem State.raiseMembership_correction (s : State) : (s.raiseMembership).correction = s.correction := rfl
@[simp] theorem State.raiseMembership_sync (s : State) : (s.raiseMembership).sync = s.sync := rfl
@[simp] theorem State.raiseMembership_schedule (s : State) : (s.raiseMembership).schedule = s.schedule := rfl
@[simp] theorem State.raiseMembership_capture (s : State) : (s.raiseMembership).capture = s.capture := rfl
@[simp] theorem State.raiseMembership_pending (s : State) : (s.raiseMembership).pending = s.pending := rfl
@[simp] theorem State.raiseMembership_port (s : State) :
    (s.raiseMembership).port = { s.port with alerts.membership := true } := rfl

@[simp] theorem State.raiseOverflow_timebase (s : State) : (s.raiseOverflow).timebase = s.timebase := rfl
@[simp] theorem State.raiseOverflow_link (s : State) : (s.raiseOverflow).link = s.link := rfl
@[simp] theorem State.raiseOverflow_peers (s : State) : (s.raiseOverflow).peers = s.peers := rfl
@[simp] theorem State.raiseOverflow_correction (s : State) : (s.raiseOverflow).correction = s.correction := rfl
@[simp] theorem State.raiseOverflow_sync (s : State) : (s.raiseOverflow).sync = s.sync := rfl
@[simp] theorem State.raiseOverflow_schedule (s : State) : (s.raiseOverflow).schedule = s.schedule := rfl
@[simp] theorem State.raiseOverflow_capture (s : State) : (s.raiseOverflow).capture = s.capture := rfl
@[simp] theorem State.raiseOverflow_pending (s : State) : (s.raiseOverflow).pending = s.pending := rfl
@[simp] theorem State.raiseOverflow_port (s : State) :
    (s.raiseOverflow).port = { s.port with alerts.overflow := true } := rfl

@[simp] theorem State.raiseCorrection_timebase (s : State) : (s.raiseCorrection).timebase = s.timebase := rfl
@[simp] theorem State.raiseCorrection_link (s : State) : (s.raiseCorrection).link = s.link := rfl
@[simp] theorem State.raiseCorrection_peers (s : State) : (s.raiseCorrection).peers = s.peers := rfl
@[simp] theorem State.raiseCorrection_correction (s : State) : (s.raiseCorrection).correction = s.correction := rfl
@[simp] theorem State.raiseCorrection_sync (s : State) : (s.raiseCorrection).sync = s.sync := rfl
@[simp] theorem State.raiseCorrection_schedule (s : State) : (s.raiseCorrection).schedule = s.schedule := rfl
@[simp] theorem State.raiseCorrection_capture (s : State) : (s.raiseCorrection).capture = s.capture := rfl
@[simp] theorem State.raiseCorrection_pending (s : State) : (s.raiseCorrection).pending = s.pending := rfl
@[simp] theorem State.raiseCorrection_port (s : State) :
    (s.raiseCorrection).port = { s.port with alerts.correction := true } := rfl

/-! ## Peers -/

@[simp] theorem State.setPeer_timebase (s : State) (p : Nat) (e : Peer) : (s.setPeer p e).timebase = s.timebase := rfl
@[simp] theorem State.setPeer_link (s : State) (p : Nat) (e : Peer) : (s.setPeer p e).link = s.link := rfl
@[simp] theorem State.setPeer_correction (s : State) (p : Nat) (e : Peer) : (s.setPeer p e).correction = s.correction := rfl
@[simp] theorem State.setPeer_sync (s : State) (p : Nat) (e : Peer) : (s.setPeer p e).sync = s.sync := rfl
@[simp] theorem State.setPeer_schedule (s : State) (p : Nat) (e : Peer) : (s.setPeer p e).schedule = s.schedule := rfl
@[simp] theorem State.setPeer_capture (s : State) (p : Nat) (e : Peer) : (s.setPeer p e).capture = s.capture := rfl
@[simp] theorem State.setPeer_port (s : State) (p : Nat) (e : Peer) : (s.setPeer p e).port = s.port := rfl
@[simp] theorem State.setPeer_pending (s : State) (p : Nat) (e : Peer) : (s.setPeer p e).pending = s.pending := rfl
@[simp] theorem State.setPeer_peers (s : State) (p : Nat) (e : Peer) :
    (s.setPeer p e).peers = s.peers.set p e := rfl

@[simp] theorem State.clearLeads_timebase (s : State) : (s.clearLeads).timebase = s.timebase := rfl
@[simp] theorem State.clearLeads_link (s : State) : (s.clearLeads).link = s.link := rfl
@[simp] theorem State.clearLeads_correction (s : State) : (s.clearLeads).correction = s.correction := rfl
@[simp] theorem State.clearLeads_sync (s : State) : (s.clearLeads).sync = s.sync := rfl
@[simp] theorem State.clearLeads_schedule (s : State) : (s.clearLeads).schedule = s.schedule := rfl
@[simp] theorem State.clearLeads_capture (s : State) : (s.clearLeads).capture = s.capture := rfl
@[simp] theorem State.clearLeads_port (s : State) : (s.clearLeads).port = s.port := rfl
@[simp] theorem State.clearLeads_pending (s : State) : (s.clearLeads).pending = s.pending := rfl
@[simp] theorem State.clearLeads_peers (s : State) :
    (s.clearLeads).peers = s.peers.map (fun e => { e with currentLead := none }) := rfl

/-! ## Schedule -/

@[simp] theorem State.setSlot_timebase (s : State) (h : Nat) (e : Option Entry) : (s.setSlot h e).timebase = s.timebase := rfl
@[simp] theorem State.setSlot_link (s : State) (h : Nat) (e : Option Entry) : (s.setSlot h e).link = s.link := rfl
@[simp] theorem State.setSlot_peers (s : State) (h : Nat) (e : Option Entry) : (s.setSlot h e).peers = s.peers := rfl
@[simp] theorem State.setSlot_correction (s : State) (h : Nat) (e : Option Entry) : (s.setSlot h e).correction = s.correction := rfl
@[simp] theorem State.setSlot_sync (s : State) (h : Nat) (e : Option Entry) : (s.setSlot h e).sync = s.sync := rfl
@[simp] theorem State.setSlot_capture (s : State) (h : Nat) (e : Option Entry) : (s.setSlot h e).capture = s.capture := rfl
@[simp] theorem State.setSlot_port (s : State) (h : Nat) (e : Option Entry) : (s.setSlot h e).port = s.port := rfl
@[simp] theorem State.setSlot_pending (s : State) (h : Nat) (e : Option Entry) : (s.setSlot h e).pending = s.pending := rfl
@[simp] theorem State.setSlot_schedule (s : State) (h : Nat) (e : Option Entry) :
    (s.setSlot h e).schedule = { s.schedule with slots := s.schedule.slots.set h e } := rfl

@[simp] theorem State.pulseLines_timebase (s : State) (l : LineSet) (w : Nat) : (s.pulseLines l w).timebase = s.timebase := rfl
@[simp] theorem State.pulseLines_link (s : State) (l : LineSet) (w : Nat) : (s.pulseLines l w).link = s.link := rfl
@[simp] theorem State.pulseLines_peers (s : State) (l : LineSet) (w : Nat) : (s.pulseLines l w).peers = s.peers := rfl
@[simp] theorem State.pulseLines_correction (s : State) (l : LineSet) (w : Nat) : (s.pulseLines l w).correction = s.correction := rfl
@[simp] theorem State.pulseLines_sync (s : State) (l : LineSet) (w : Nat) : (s.pulseLines l w).sync = s.sync := rfl
@[simp] theorem State.pulseLines_capture (s : State) (l : LineSet) (w : Nat) : (s.pulseLines l w).capture = s.capture := rfl
@[simp] theorem State.pulseLines_port (s : State) (l : LineSet) (w : Nat) : (s.pulseLines l w).port = s.port := rfl
@[simp] theorem State.pulseLines_pending (s : State) (l : LineSet) (w : Nat) : (s.pulseLines l w).pending = s.pending := rfl
@[simp] theorem State.pulseLines_schedule_slots (s : State) (l : LineSet) (w : Nat) :
    (s.pulseLines l w).schedule.slots = s.schedule.slots := rfl
@[simp] theorem State.pulseLines_schedule_ownProposal (s : State) (l : LineSet) (w : Nat) :
    (s.pulseLines l w).schedule.ownProposal = s.schedule.ownProposal := rfl
@[simp] theorem State.pulseLines_schedule_declined (s : State) (l : LineSet) (w : Nat) :
    (s.pulseLines l w).schedule.declined = s.schedule.declined := rfl
@[simp] theorem State.pulseLines_schedule_tagCounter (s : State) (l : LineSet) (w : Nat) :
    (s.pulseLines l w).schedule.tagCounter = s.schedule.tagCounter := rfl

@[simp] theorem State.takeExpiries_timebase (s : State) : (s.takeExpiries).timebase = s.timebase := rfl
@[simp] theorem State.takeExpiries_link (s : State) : (s.takeExpiries).link = s.link := rfl
@[simp] theorem State.takeExpiries_peers (s : State) : (s.takeExpiries).peers = s.peers := rfl
@[simp] theorem State.takeExpiries_correction (s : State) : (s.takeExpiries).correction = s.correction := rfl
@[simp] theorem State.takeExpiries_sync (s : State) : (s.takeExpiries).sync = s.sync := rfl
@[simp] theorem State.takeExpiries_capture (s : State) : (s.takeExpiries).capture = s.capture := rfl
@[simp] theorem State.takeExpiries_port (s : State) : (s.takeExpiries).port = s.port := rfl
@[simp] theorem State.takeExpiries_pending (s : State) : (s.takeExpiries).pending = s.pending := rfl
@[simp] theorem State.takeExpiries_schedule_slots (s : State) :
    (s.takeExpiries).schedule.slots = s.schedule.slots := rfl
@[simp] theorem State.takeExpiries_schedule_lines (s : State) :
    (s.takeExpiries).schedule.lines = s.schedule.lines := rfl

@[simp] theorem State.takePulseEnds_timebase (s : State) : (s.takePulseEnds).timebase = s.timebase := rfl
@[simp] theorem State.takePulseEnds_link (s : State) : (s.takePulseEnds).link = s.link := rfl
@[simp] theorem State.takePulseEnds_peers (s : State) : (s.takePulseEnds).peers = s.peers := rfl
@[simp] theorem State.takePulseEnds_correction (s : State) : (s.takePulseEnds).correction = s.correction := rfl
@[simp] theorem State.takePulseEnds_sync (s : State) : (s.takePulseEnds).sync = s.sync := rfl
@[simp] theorem State.takePulseEnds_capture (s : State) : (s.takePulseEnds).capture = s.capture := rfl
@[simp] theorem State.takePulseEnds_port (s : State) : (s.takePulseEnds).port = s.port := rfl
@[simp] theorem State.takePulseEnds_pending (s : State) : (s.takePulseEnds).pending = s.pending := rfl
@[simp] theorem State.takePulseEnds_schedule_slots (s : State) :
    (s.takePulseEnds).schedule.slots = s.schedule.slots := rfl
@[simp] theorem State.takePulseEnds_schedule_lines (s : State) :
    (s.takePulseEnds).schedule.lines = s.schedule.lines.map Line.ended := rfl

/-! ## Correction unit and sync controller -/

@[simp] theorem State.writeLog_timebase (s : State) (r : LogRecord) : (s.writeLog r).timebase = s.timebase := rfl
@[simp] theorem State.writeLog_link (s : State) (r : LogRecord) : (s.writeLog r).link = s.link := rfl
@[simp] theorem State.writeLog_peers (s : State) (r : LogRecord) : (s.writeLog r).peers = s.peers := rfl
@[simp] theorem State.writeLog_sync (s : State) (r : LogRecord) : (s.writeLog r).sync = s.sync := rfl
@[simp] theorem State.writeLog_schedule (s : State) (r : LogRecord) : (s.writeLog r).schedule = s.schedule := rfl
@[simp] theorem State.writeLog_capture (s : State) (r : LogRecord) : (s.writeLog r).capture = s.capture := rfl
@[simp] theorem State.writeLog_port (s : State) (r : LogRecord) : (s.writeLog r).port = s.port := rfl
@[simp] theorem State.writeLog_pending (s : State) (r : LogRecord) : (s.writeLog r).pending = s.pending := rfl
@[simp] theorem State.writeLog_correction_sticky (s : State) (r : LogRecord) :
    (s.writeLog r).correction.sticky = s.correction.sticky := rfl
@[simp] theorem State.writeLog_correction_log (s : State) (r : LogRecord) :
    (s.writeLog r).correction.log = (r :: s.correction.log).take 16 := rfl

@[simp] theorem State.dropMarker_timebase (s : State) : (s.dropMarker).timebase = s.timebase := rfl
@[simp] theorem State.dropMarker_link (s : State) : (s.dropMarker).link = s.link := rfl
@[simp] theorem State.dropMarker_peers (s : State) : (s.dropMarker).peers = s.peers := rfl
@[simp] theorem State.dropMarker_correction (s : State) : (s.dropMarker).correction = s.correction := rfl
@[simp] theorem State.dropMarker_schedule (s : State) : (s.dropMarker).schedule = s.schedule := rfl
@[simp] theorem State.dropMarker_capture (s : State) : (s.dropMarker).capture = s.capture := rfl
@[simp] theorem State.dropMarker_port (s : State) : (s.dropMarker).port = s.port := rfl
@[simp] theorem State.dropMarker_pending (s : State) : (s.dropMarker).pending = s.pending := rfl
@[simp] theorem State.dropMarker_sync (s : State) :
    (s.dropMarker).sync = { s.sync with holdLeft := false } := rfl

/-! ## Link engine -/

@[simp] theorem State.markTaken_timebase (s : State) : (s.markTaken).timebase = s.timebase := rfl
@[simp] theorem State.markTaken_peers (s : State) : (s.markTaken).peers = s.peers := rfl
@[simp] theorem State.markTaken_correction (s : State) : (s.markTaken).correction = s.correction := rfl
@[simp] theorem State.markTaken_sync (s : State) : (s.markTaken).sync = s.sync := rfl
@[simp] theorem State.markTaken_schedule (s : State) : (s.markTaken).schedule = s.schedule := rfl
@[simp] theorem State.markTaken_capture (s : State) : (s.markTaken).capture = s.capture := rfl
@[simp] theorem State.markTaken_port (s : State) : (s.markTaken).port = s.port := rfl
@[simp] theorem State.markTaken_pending (s : State) : (s.markTaken).pending = s.pending := rfl
@[simp] theorem State.markTaken_link (s : State) :
    (s.markTaken).link = { s.link with seqMark := s.now } := rfl

@[simp] theorem State.beginBeacon_timebase (s : State) : (s.beginBeacon).timebase = s.timebase := rfl
@[simp] theorem State.beginBeacon_peers (s : State) : (s.beginBeacon).peers = s.peers := rfl
@[simp] theorem State.beginBeacon_correction (s : State) : (s.beginBeacon).correction = s.correction := rfl
@[simp] theorem State.beginBeacon_schedule (s : State) : (s.beginBeacon).schedule = s.schedule := rfl
@[simp] theorem State.beginBeacon_capture (s : State) : (s.beginBeacon).capture = s.capture := rfl
@[simp] theorem State.beginBeacon_port (s : State) : (s.beginBeacon).port = s.port := rfl
@[simp] theorem State.beginBeacon_pending (s : State) : (s.beginBeacon).pending = s.pending := rfl
@[simp] theorem State.beginBeacon_sync_state (s : State) :
    (s.beginBeacon).sync.state = s.sync.state := rfl
@[simp] theorem State.beginBeacon_link_reception (s : State) :
    (s.beginBeacon).link.reception = none := rfl

/-! ## Timebase -/

@[simp] theorem State.advanceTime_peers (s : State) (d : Nat) : (s.advanceTime d).peers = s.peers := rfl
@[simp] theorem State.advanceTime_correction (s : State) (d : Nat) : (s.advanceTime d).correction = s.correction := rfl
@[simp] theorem State.advanceTime_sync (s : State) (d : Nat) : (s.advanceTime d).sync = s.sync := rfl
@[simp] theorem State.advanceTime_capture (s : State) (d : Nat) : (s.advanceTime d).capture = s.capture := rfl
@[simp] theorem State.advanceTime_port (s : State) (d : Nat) : (s.advanceTime d).port = s.port := rfl
@[simp] theorem State.advanceTime_pending (s : State) (d : Nat) : (s.advanceTime d).pending = s.pending := rfl
@[simp] theorem State.advanceTime_link (s : State) (d : Nat) :
    (s.advanceTime d).link = { s.link with idleIn := s.link.idleIn - d } := rfl
@[simp] theorem State.advanceTime_timebase_trim (s : State) (d : Nat) :
    (s.advanceTime d).timebase.trim = s.timebase.trim := rfl
@[simp] theorem State.advanceTime_timebase_residue (s : State) (d : Nat) :
    (s.advanceTime d).timebase.residue = s.timebase.residue := rfl
@[simp] theorem State.advanceTime_timebase_time (s : State) (d : Nat) :
    (s.advanceTime d).timebase.time = timeOf (s.now + d) := rfl
@[simp] theorem State.advanceTime_schedule_slots (s : State) (d : Nat) :
    (s.advanceTime d).schedule.slots = s.schedule.slots := rfl

@[simp] theorem State.runNs_peers (s : State) (d : Nat) : (s.runNs d).peers = s.peers := rfl
@[simp] theorem State.runNs_correction (s : State) (d : Nat) : (s.runNs d).correction = s.correction := rfl
@[simp] theorem State.runNs_sync (s : State) (d : Nat) : (s.runNs d).sync = s.sync := rfl
@[simp] theorem State.runNs_capture (s : State) (d : Nat) : (s.runNs d).capture = s.capture := rfl
@[simp] theorem State.runNs_port (s : State) (d : Nat) : (s.runNs d).port = s.port := rfl
@[simp] theorem State.runNs_pending (s : State) (d : Nat) : (s.runNs d).pending = s.pending := rfl
@[simp] theorem State.runNs_link (s : State) (d : Nat) :
    (s.runNs d).link = { s.link with idleIn := s.link.idleIn - d } := rfl
@[simp] theorem State.runNs_timebase_trim (s : State) (d : Nat) :
    (s.runNs d).timebase.trim = s.timebase.trim := rfl
@[simp] theorem State.runNs_timebase_residue (s : State) (d : Nat) :
    (s.runNs d).timebase.residue = 0 := rfl
@[simp] theorem State.runNs_timebase_time (s : State) (d : Nat) :
    (s.runNs d).timebase.time = timeOf (s.now + d) := rfl
@[simp] theorem State.runNs_schedule_slots (s : State) (d : Nat) :
    (s.runNs d).schedule.slots = s.schedule.slots := rfl

@[simp] theorem State.endPeriod_link (s : State) : (s.endPeriod).link = s.link := rfl
@[simp] theorem State.endPeriod_peers (s : State) : (s.endPeriod).peers = s.peers := rfl
@[simp] theorem State.endPeriod_correction (s : State) : (s.endPeriod).correction = s.correction := rfl
@[simp] theorem State.endPeriod_sync (s : State) : (s.endPeriod).sync = s.sync := rfl
@[simp] theorem State.endPeriod_schedule (s : State) : (s.endPeriod).schedule = s.schedule := rfl
@[simp] theorem State.endPeriod_capture (s : State) : (s.endPeriod).capture = s.capture := rfl
@[simp] theorem State.endPeriod_port (s : State) : (s.endPeriod).port = s.port := rfl
@[simp] theorem State.endPeriod_pending (s : State) : (s.endPeriod).pending = s.pending := rfl
@[simp] theorem State.endPeriod_timebase_time (s : State) :
    (s.endPeriod).timebase.time = s.timebase.time := rfl
@[simp] theorem State.endPeriod_timebase_trim (s : State) :
    (s.endPeriod).timebase.trim = s.timebase.trim := rfl
@[simp] theorem State.endPeriod_timebase_periodLeft (s : State) :
    (s.endPeriod).timebase.periodLeft = 0 := rfl

@[simp] theorem State.beginSlew_link (s : State) (a r : Int) : (s.beginSlew a r).link = s.link := rfl
@[simp] theorem State.beginSlew_peers (s : State) (a r : Int) : (s.beginSlew a r).peers = s.peers := rfl
@[simp] theorem State.beginSlew_correction (s : State) (a r : Int) : (s.beginSlew a r).correction = s.correction := rfl
@[simp] theorem State.beginSlew_sync (s : State) (a r : Int) : (s.beginSlew a r).sync = s.sync := rfl
@[simp] theorem State.beginSlew_schedule (s : State) (a r : Int) : (s.beginSlew a r).schedule = s.schedule := rfl
@[simp] theorem State.beginSlew_capture (s : State) (a r : Int) : (s.beginSlew a r).capture = s.capture := rfl
@[simp] theorem State.beginSlew_port (s : State) (a r : Int) : (s.beginSlew a r).port = s.port := rfl
@[simp] theorem State.beginSlew_pending (s : State) (a r : Int) : (s.beginSlew a r).pending = s.pending := rfl
@[simp] theorem State.beginSlew_timebase_time (s : State) (a r : Int) :
    (s.beginSlew a r).timebase.time = s.timebase.time := rfl
@[simp] theorem State.beginSlew_timebase_high (s : State) (a r : Int) :
    (s.beginSlew a r).timebase.high = s.timebase.high := rfl
@[simp] theorem State.beginSlew_timebase_trim (s : State) (a r : Int) :
    (s.beginSlew a r).timebase.trim = r := rfl
@[simp] theorem State.beginSlew_timebase_slewLeft (s : State) (a r : Int) :
    (s.beginSlew a r).timebase.slewLeft = a := rfl

/-! ## Station port -/

@[simp] theorem State.respond_timebase (s : State) (c : Byte) (a : Answer) :
    (s.respond c a).timebase = a.after.timebase := rfl
@[simp] theorem State.respond_link (s : State) (c : Byte) (a : Answer) :
    (s.respond c a).link = a.after.link := rfl
@[simp] theorem State.respond_peers (s : State) (c : Byte) (a : Answer) :
    (s.respond c a).peers = a.after.peers := rfl
@[simp] theorem State.respond_correction (s : State) (c : Byte) (a : Answer) :
    (s.respond c a).correction = a.after.correction := rfl
@[simp] theorem State.respond_sync (s : State) (c : Byte) (a : Answer) :
    (s.respond c a).sync = a.after.sync := rfl
@[simp] theorem State.respond_schedule (s : State) (c : Byte) (a : Answer) :
    (s.respond c a).schedule = a.after.schedule := rfl
@[simp] theorem State.respond_capture (s : State) (c : Byte) (a : Answer) :
    (s.respond c a).capture = a.after.capture := rfl
@[simp] theorem State.respond_pending (s : State) (c : Byte) (a : Answer) :
    (s.respond c a).pending = a.after.pending := rfl
@[simp] theorem State.respond_port_serial (s : State) (c : Byte) (a : Answer) :
    (s.respond c a).port.serial = (s.port.serial + 1) % 256 := rfl
@[simp] theorem State.respond_port_holder (s : State) (c : Byte) (a : Answer) :
    (s.respond c a).port.holder = ⟨c, (s.port.serial + 1) % 256, a.code, a.body⟩ := rfl
@[simp] theorem State.respond_port_config (s : State) (c : Byte) (a : Answer) :
    (s.respond c a).port.config = a.after.port.config := rfl
@[simp] theorem State.respond_port_straps (s : State) (c : Byte) (a : Answer) :
    (s.respond c a).port.straps = a.after.port.straps := rfl
@[simp] theorem State.respond_port_starting (s : State) (c : Byte) (a : Answer) :
    (s.respond c a).port.starting = a.after.port.starting := rfl

@[simp] theorem State.beginStart_peers (s : State) (c : StartCause) : (s.beginStart c).peers = s.peers := rfl
@[simp] theorem State.beginStart_correction (s : State) (c : StartCause) : (s.beginStart c).correction = s.correction := rfl
@[simp] theorem State.beginStart_sync (s : State) (c : StartCause) : (s.beginStart c).sync = s.sync := rfl
@[simp] theorem State.beginStart_capture (s : State) (c : StartCause) : (s.beginStart c).capture = s.capture := rfl
@[simp] theorem State.beginStart_pending (s : State) (c : StartCause) : (s.beginStart c).pending = s.pending := rfl
@[simp] theorem State.beginStart_timebase_time (s : State) (c : StartCause) :
    (s.beginStart c).timebase.time = 0 := rfl
@[simp] theorem State.beginStart_schedule (s : State) (c : StartCause) :
    (s.beginStart c).schedule = Schedule.start := rfl
@[simp] theorem State.beginStart_port_starting (s : State) (c : StartCause) :
    (s.beginStart c).port.starting = some c := rfl
@[simp] theorem State.beginStart_port_straps (s : State) (c : StartCause) :
    (s.beginStart c).port.straps = s.port.straps := rfl

end Sys2Proof.Machine
end

