-- ==== Sys2Proof/Laws/Ops.lean ====
section
/-!
SUPPORT. Laws/Ops.lean: what the shared operations can do, said once. `still` is the part of State that no state
change, arrival or schedule event touches; `portStill` is the part that no event at all touches but a start. One
lemma per operation says that it keeps them; field lemmas for proofs follow from it.
-/
namespace Sys2Proof.Machine

/-- A projection that every turn of a fold keeps, the fold keeps. -/
theorem foldl_keeps {α β σ : Type} {f : σ → β → σ} {g : σ → α} (h : ∀ s x, g (f s x) = g s) (l : List β) (s : σ) :
    g (l.foldl f s) = g s := by
  induction l generalizing s with
  | nil => rfl
  | cons x l ih => rw [List.foldl_cons, ih, h]

/-- A property that every turn of a fold keeps, the fold keeps. -/
theorem foldl_invariant {β σ : Type} {f : σ → β → σ} {P : σ → Prop} (h : ∀ s x, P s → P (f s x)) (l : List β) (s : σ)
    (hs : P s) : P (l.foldl f s) := by
  induction l generalizing s with
  | nil => exact hs
  | cons x l ih => exact ih _ (h s x hs)

/-! ## Fixed parts -/

/-- The station port but for the alert flags and the frozen flag. -/
def Port.still (p : Port) : Port := { p with alerts := AlertSet.none, frozen := false }

/-- Everything but the link engine, the peer table, the sync controller, the schedule, the capture unit, the alert
flags and the frozen flag. -/
def State.still (s : State) : Timebase × CorrectionUnit × Port × List Instr :=
  (s.timebase, s.correction, s.port.still, s.pending)

/-- The station port but for the alert flags and the frozen flag, and the queue. -/
def State.portStill (s : State) : Port × List Instr := (s.port.still, s.pending)

theorem State.still_timebase {s t : State} (h : t.still = s.still) : t.timebase = s.timebase :=
  congrArg (·.1) h

theorem State.still_correction {s t : State} (h : t.still = s.still) : t.correction = s.correction :=
  congrArg (·.2.1) h

theorem State.still_portStill {s t : State} (h : t.still = s.still) : t.portStill = s.portStill :=
  congrArg (·.2.2) h

theorem State.portStill_pending {s t : State} (h : t.portStill = s.portStill) : t.pending = s.pending :=
  congrArg (·.2) h

theorem State.portStill_config {s t : State} (h : t.portStill = s.portStill) : t.port.config = s.port.config :=
  congrArg (·.1.config) h

theorem State.portStill_straps {s t : State} (h : t.portStill = s.portStill) : t.port.straps = s.port.straps :=
  congrArg (·.1.straps) h

theorem State.portStill_starting {s t : State} (h : t.portStill = s.portStill) :
    t.port.starting = s.port.starting :=
  congrArg (·.1.starting) h

theorem State.portStill_holdLevel {s t : State} (h : t.portStill = s.portStill) :
    t.port.holdLevel = s.port.holdLevel :=
  congrArg (·.1.holdLevel) h

theorem State.portStill_serial {s t : State} (h : t.portStill = s.portStill) : t.port.serial = s.port.serial :=
  congrArg (·.1.serial) h

/-! ## Operations of Ops.lean -/

@[simp] theorem State.post_still (s : State) (r : EventRecord) : (s.post r).still = s.still := by
  unfold State.post; split <;> rfl

/-- A record joins the newest end while there is room, and is discarded with the overflow flag set otherwise
(R172, R173). -/
theorem State.post_cases (s : State) (r : EventRecord) :
    (s.capture.queue.length < 16 ∧ s.post r = { s with capture.queue := s.capture.queue ++ [r] }) ∨
      (16 ≤ s.capture.queue.length ∧ s.post r = s.raiseOverflow) := by
  unfold State.post
  split
  · exact .inl ⟨‹_›, rfl⟩
  · exact .inr ⟨by omega, rfl⟩

@[simp] theorem State.post_schedule (s : State) (r : EventRecord) : (s.post r).schedule = s.schedule := by
  unfold State.post; split <;> rfl

@[simp] theorem State.post_sync (s : State) (r : EventRecord) : (s.post r).sync = s.sync := by
  unfold State.post; split <;> rfl

@[simp] theorem State.post_peers (s : State) (r : EventRecord) : (s.post r).peers = s.peers := by
  unfold State.post; split <;> rfl

@[simp] theorem State.post_link (s : State) (r : EventRecord) : (s.post r).link = s.link := by
  unfold State.post; split <;> rfl

@[simp] theorem State.clearPeers_still (s : State) : s.clearPeers.still = s.still := by
  unfold State.clearPeers; simp only []; split <;> rfl

@[simp] theorem State.clearPeers_peers (s : State) : s.clearPeers.peers = s.peers.map Peer.cleared := by
  unfold State.clearPeers; simp only []; split <;> rfl

@[simp] theorem State.clearPeers_sync (s : State) : s.clearPeers.sync = s.sync := by
  unfold State.clearPeers; simp only []; split <;> rfl

@[simp] theorem State.clearPeers_schedule (s : State) : s.clearPeers.schedule = s.schedule := by
  unfold State.clearPeers; simp only []; split <;> rfl

@[simp] theorem State.endProposal_still (s : State) (h : Nat) : (s.endProposal h).still = s.still := by
  unfold State.endProposal; split <;> rfl

@[simp] theorem State.endProposal_peers (s : State) (h : Nat) : (s.endProposal h).peers = s.peers := by
  unfold State.endProposal; split <;> rfl

@[simp] theorem State.endProposal_sync (s : State) (h : Nat) : (s.endProposal h).sync = s.sync := by
  unfold State.endProposal; split <;> rfl

@[simp] theorem State.endProposal_slots (s : State) (h : Nat) :
    (s.endProposal h).schedule.slots = s.schedule.slots := by
  unfold State.endProposal; split <;> rfl

@[simp] theorem State.fireAs_still (s : State) (h : Nat) (e : Entry) (after : Option Entry) (late : Bool) (k : Nat) :
    (s.fireAs h e after late k).still = s.still := by
  unfold State.fireAs; simp only []; split
  · rw [State.post_still]; rfl
  · rfl

@[simp] theorem State.fireAs_sync (s : State) (h : Nat) (e : Entry) (after : Option Entry) (late : Bool) (k : Nat) :
    (s.fireAs h e after late k).sync = s.sync := by
  unfold State.fireAs; simp only []; split <;> simp

@[simp] theorem State.fireAs_peers (s : State) (h : Nat) (e : Entry) (after : Option Entry) (late : Bool) (k : Nat) :
    (s.fireAs h e after late k).peers = s.peers := by
  unfold State.fireAs; simp only []; split <;> simp

@[simp] theorem State.fireIfDue_still (s : State) (h : Nat) : (s.fireIfDue h).still = s.still := by
  unfold State.fireIfDue State.fireOnTime
  split
  · split <;> simp only [State.fireAs_still]
  · rfl

@[simp] theorem State.takeFirings_still (s : State) : s.takeFirings.still = s.still :=
  foldl_keeps State.fireIfDue_still _ s

@[simp] theorem State.takeExpiries_still (s : State) : s.takeExpiries.still = s.still := rfl

@[simp] theorem State.takeReached_still (s : State) : s.takeReached.still = s.still := by
  unfold State.takeReached
  rw [State.takeExpiries_still, State.takeFirings_still]

@[simp] theorem State.lateFireIfPassed_still (a b : Nat) (s : State) (h : Nat) :
    (lateFireIfPassed a b s h).still = s.still := by
  unfold State.lateFireIfPassed State.fireLate
  split
  · split <;> simp only [State.fireAs_still]
  · rfl

/-- The declined list is no part of `still`. -/
theorem State.still_of_declined (s : State) (d : List Declined) :
    ({ s with schedule.declined := d } : State).still = s.still := rfl

@[simp] theorem State.jumpSchedule_still (s : State) (a b : Nat) : (s.jumpSchedule a b).still = s.still := by
  unfold State.jumpSchedule
  split
  · simp only []
    rw [State.still_of_declined, foldl_keeps (State.lateFireIfPassed_still a b)]
  · rfl

/-- A backward jump leaves the schedule, and all else, as it stands (R131). -/
theorem State.jumpSchedule_backward (s : State) {a b : Nat} (h : b ≤ a) : s.jumpSchedule a b = s := by
  unfold State.jumpSchedule
  split
  · omega
  · rfl

@[simp] theorem State.arm_still (s : State) (h : Nat) (name : Pair) (e : Entry) : (s.arm h name e).still = s.still := by
  unfold State.arm
  exact (State.post_still _ _).trans (State.endProposal_still _ _)

@[simp] theorem State.arm_peers (s : State) (h : Nat) (name : Pair) (e : Entry) : (s.arm h name e).peers = s.peers := by
  unfold State.arm; simp

@[simp] theorem State.arm_sync (s : State) (h : Nat) (name : Pair) (e : Entry) : (s.arm h name e).sync = s.sync := by
  unfold State.arm; simp

@[simp] theorem State.evaluateSlot_still (s : State) (h : Nat) : (s.evaluateSlot h).still = s.still := by
  unfold State.evaluateSlot
  split
  · split
    · exact State.arm_still _ _ _ _
    · rfl
  · rfl

@[simp] theorem State.evaluateSlot_peers (s : State) (h : Nat) : (s.evaluateSlot h).peers = s.peers := by
  unfold State.evaluateSlot
  split
  · split <;> simp
  · rfl

@[simp] theorem State.evaluateSlot_sync (s : State) (h : Nat) : (s.evaluateSlot h).sync = s.sync := by
  unfold State.evaluateSlot
  split
  · split <;> simp
  · rfl

@[simp] theorem State.evaluateArming_still (s : State) : s.evaluateArming.still = s.still :=
  foldl_keeps State.evaluateSlot_still _ s

@[simp] theorem State.evaluateArming_peers (s : State) : s.evaluateArming.peers = s.peers :=
  foldl_keeps State.evaluateSlot_peers _ s

@[simp] theorem State.evaluateArming_sync (s : State) : s.evaluateArming.sync = s.sync :=
  foldl_keeps State.evaluateSlot_sync _ s

@[simp] theorem State.abandon_still (s : State) (h : Nat) (name : Pair) (e : Entry) (r : AbandonReason) (m : StationSet) :
    (s.abandon h name e r m).still = s.still := by
  unfold State.abandon
  exact (State.post_still _ _).trans (State.endProposal_still _ _)

@[simp] theorem State.abandon_sync (s : State) (h : Nat) (name : Pair) (e : Entry) (r : AbandonReason) (m : StationSet) :
    (s.abandon h name e r m).sync = s.sync := by
  unfold State.abandon; simp

@[simp] theorem State.abandon_peers (s : State) (h : Nat) (name : Pair) (e : Entry) (r : AbandonReason) (m : StationSet) :
    (s.abandon h name e r m).peers = s.peers := by
  unfold State.abandon; simp

@[simp] theorem State.abandonSlot_still (s : State) (h : Nat) : (s.abandonSlot h).still = s.still := by
  unfold State.abandonSlot
  split <;> simp

@[simp] theorem State.abandonSlot_sync (s : State) (h : Nat) : (s.abandonSlot h).sync = s.sync := by
  unfold State.abandonSlot
  split <;> simp

@[simp] theorem State.abandonSlot_peers (s : State) (h : Nat) : (s.abandonSlot h).peers = s.peers := by
  unfold State.abandonSlot
  split <;> simp

@[simp] theorem State.abandonPending_still (s : State) : s.abandonPending.still = s.still :=
  foldl_keeps State.abandonSlot_still _ s

@[simp] theorem State.abandonPending_sync (s : State) : s.abandonPending.sync = s.sync :=
  foldl_keeps State.abandonSlot_sync _ s

@[simp] theorem State.abandonPending_peers (s : State) : s.abandonPending.peers = s.peers :=
  foldl_keeps State.abandonSlot_peers _ s

/-! ## State changes (R91) -/

/-- The sync controller, the link engine and the alert flags are no part of `still`. -/
theorem State.still_of_sync_link (s : State) (y : Sync) (l : Link) :
    ({ s with sync := y, link := l }.raiseState).still = s.still := rfl

@[simp] theorem State.enter_still (s : State) (new : StationState) (cause : Cause) :
    (s.enter new cause).still = s.still := by
  unfold State.enter
  simp only []
  split <;> split <;>
    simp only [State.clearPeers_still, State.still_of_sync_link, State.abandonPending_still]

/-- The sync controller after a state change (R91). -/
@[simp] theorem State.enter_sync (s : State) (new : StationState) (cause : Cause) :
    (s.enter new cause).sync = s.sync.enter new cause := by
  unfold State.enter
  simp only []
  split <;> split <;> simp

/-- The peer table after a state change (R65). -/
@[simp] theorem State.enter_peers (s : State) (new : StationState) (cause : Cause) :
    (s.enter new cause).peers = if new.quiet then s.peers.map Peer.cleared else s.peers := by
  unfold State.enter
  simp only []
  split <;> split <;> simp_all

@[simp] theorem State.acceptJoin_still (s : State) : s.acceptJoin.still = s.still :=
  State.enter_still _ _ _

@[simp] theorem State.joinUnasked_still (s : State) : s.joinUnasked.still = s.still := by
  unfold State.joinUnasked
  split <;> simp

@[simp] theorem State.changeState_still (s : State) (new : StationState) (cause : Cause) :
    (s.changeState new cause).still = s.still := by
  unfold State.changeState
  simp only []
  split <;> simp

/-- A state change that brings no rejoin (R91, R114). -/
theorem State.changeState_plain (s : State) {new : StationState} (cause : Cause) (h : new ≠ .dormant) :
    s.changeState new cause = s.enter new cause := by
  unfold State.changeState
  simp [h]

/-! ## Membership changes (R64, R103) -/

@[simp] theorem State.isolationCheck_still (s : State) (old : PeerState) : (s.isolationCheck old).still = s.still := by
  unfold State.isolationCheck
  split <;> simp

@[simp] theorem State.reportChange_still (s : State) (old : PeerState) : (s.reportChange old).still = s.still := by
  unfold State.reportChange
  exact (State.isolationCheck_still _ _).trans (State.evaluateArming_still _)

@[simp] theorem State.updatePeer_still (s : State) (p : Nat) (old new : Peer) :
    (s.updatePeer p old new).still = s.still := by
  unfold State.updatePeer
  simp only []
  split
  · rfl
  · exact State.reportChange_still _ _

/-! ## Events of the link (R49 to R58) -/

@[simp] theorem State.takeOffer_still (s : State) (p : Nat) (o : Offer) : (s.takeOffer p o).still = s.still := by
  unfold State.takeOffer
  simp only []
  split
  · split <;> rfl
  · rfl

@[simp] theorem State.beaconNotice_still (s : State) (p : Nat) (o : Option Offer) :
    (s.beaconNotice p o).still = s.still := by
  unfold State.beaconNotice
  rw [State.evaluateArming_still]
  split <;> simp

@[simp] theorem State.arrival_still (s : State) (p : Nat) (lead : Int) (b : Beacon) :
    (s.arrival p lead b).still = s.still := by
  unfold State.arrival
  simp only []
  split
  · rfl
  · split
    · rfl
    · split
      · simp
      · split
        · exact State.beaconNotice_still _ _ _
        · exact (State.isolationCheck_still _ _).trans (State.beaconNotice_still _ _ _)

@[simp] theorem State.badFrame_still (s : State) (p : Nat) : (s.badFrame p).still = s.still := by
  unfold State.badFrame
  split <;> simp

@[simp] theorem State.missedWindow_still (s : State) (p : Nat) : (s.missedWindow p).still = s.still := by
  unfold State.missedWindow
  split <;> simp

@[simp] theorem State.hearStray_still (s : State) (b : Beacon) : (s.hearStray b).still = s.still := by
  unfold State.hearStray
  split <;> rfl

@[simp] theorem State.judgeFrame_still (s : State) (mark : Int) (bits : List Bool) (inError : Bool) :
    (s.judgeFrame mark bits inError).still = s.still := by
  unfold State.judgeFrame
  split
  · simp
  · split <;> simp
  · rfl
  · simp
  · unfold State.deliverGood
    split
    · simp
    · exact State.arrival_still _ _ _ _

end Sys2Proof.Machine
end

