-- ==== Sys2Proof/Laws/Events.lean ====
section
/-!
SUPPORT. Laws/Events.lean: the events keep `portStill`: the configuration, the straps, the HOLD level, the response
holder and the waiting commands (R180, R182, R187).
-/
namespace Sys2Proof.Machine

/-- An operation that keeps `still` keeps `portStill`. -/
theorem State.portStill_of_still {s t : State} (h : t.still = s.still) : t.portStill = s.portStill :=
  State.still_portStill h

/-! ## Jumps and corrections -/

@[simp] theorem State.noticeStep_still (s : State) (a b : Nat) : (s.noticeStep a b).still = s.still := by
  unfold State.noticeStep
  simp only []
  rw [State.jumpSchedule_still]
  split <;> rfl

/-- The timebase is no part of `portStill`. -/
theorem State.portStill_of_timebase (s : State) (b : Timebase) (l : Link) :
    ({ s with timebase := b, link := l } : State).portStill = s.portStill := rfl

@[simp] theorem State.stepTime_portStill (s : State) (c : Int) : (s.stepTime c).portStill = s.portStill := by
  unfold State.stepTime
  simp only []
  rw [State.portStill_of_still (State.noticeStep_still _ _ _), State.portStill_of_timebase]
  exact State.portStill_of_still (State.takeReached_still s)

@[simp] theorem State.alignTime_portStill (s : State) (b : Nat) : (s.alignTime b).portStill = s.portStill := by
  unfold State.alignTime
  simp only []
  rw [State.portStill_of_still (State.jumpSchedule_still _ _ _), State.portStill_of_timebase]
  exact State.portStill_of_still (State.takeReached_still s)

@[simp] theorem State.applyAction_portStill (s : State) (d : Decision) : (s.applyAction d).portStill = s.portStill := by
  unfold State.applyAction
  split
  · simp
  · rfl
  · rfl

@[simp] theorem State.recordFlags_portStill (s : State) (f : CorrFlags) :
    (s.recordFlags f).portStill = s.portStill := by
  unfold State.recordFlags
  simp only []
  split <;> rfl

@[simp] theorem State.changeState_portStill (s : State) (new : StationState) (cause : Cause) :
    (s.changeState new cause).portStill = s.portStill :=
  State.portStill_of_still (State.changeState_still s new cause)

/-- The sync controller is no part of `portStill`. -/
theorem State.portStill_of_sync (s : State) (y : Sync) : ({ s with sync := y } : State).portStill = s.portStill := rfl

@[simp] theorem State.merge_portStill (s : State) : s.merge.portStill = s.portStill := by
  unfold State.merge
  simp only []
  rw [State.portStill_of_sync, State.changeState_portStill]

@[simp] theorem State.lockStep_portStill (s : State) (c : Int) (a : Action) :
    (s.lockStep c a).portStill = s.portStill := by
  unfold State.lockStep
  simp only []
  split_ifs <;> simp only [State.changeState_portStill, State.portStill_of_sync]

@[simp] theorem State.unlockStep_portStill (s : State) (c : Int) : (s.unlockStep c).portStill = s.portStill := by
  unfold State.unlockStep
  simp only []
  split_ifs <;> simp only [State.changeState_portStill, State.portStill_of_sync]

@[simp] theorem State.holdoverStep_portStill (s : State) (c : Int) : (s.holdoverStep c).portStill = s.portStill := by
  unfold State.holdoverStep
  simp only []
  split_ifs <;> simp only [State.changeState_portStill, State.portStill_of_sync]

@[simp] theorem State.handleResult_portStill (s : State) (c : Int) (a : Action) :
    (s.handleResult c a).portStill = s.portStill := by
  unfold State.handleResult
  simp only []
  rw [State.portStill_of_sync]
  split
  · simp
  · unfold State.advanceRuns
    split <;> simp

@[simp] theorem State.clearLeads_portStill (s : State) : s.clearLeads.portStill = s.portStill := rfl

@[simp] theorem State.writeLog_portStill (s : State) (r : LogRecord) : (s.writeLog r).portStill = s.portStill := rfl

@[simp] theorem State.correct_portStill (s : State) : s.correct.portStill = s.portStill := by
  unfold State.correct
  simp only []
  rw [State.handleResult_portStill, State.writeLog_portStill, State.recordFlags_portStill,
    State.applyAction_portStill, State.clearLeads_portStill]

/-! ## Instants -/

@[simp] theorem State.takeOwnSend_portStill (s : State) : s.takeOwnSend.portStill = s.portStill := by
  unfold State.takeOwnSend
  split
  · split <;> rfl
  · rfl

@[simp] theorem State.markTaken_portStill (s : State) : s.markTaken.portStill = s.portStill := rfl

@[simp] theorem State.takeWindowClose_portStill (s : State) : s.takeWindowClose.portStill = s.portStill := by
  unfold State.takeWindowClose
  split
  · split
    · rw [State.portStill_of_still (State.missedWindow_still _ _), State.markTaken_portStill]
    · rfl
  · rfl
  · rfl
  · rfl

@[simp] theorem State.takeEpochClose_portStill (s : State) : s.takeEpochClose.portStill = s.portStill := by
  unfold State.takeEpochClose
  split
  · simp only []
    split
    · rw [State.correct_portStill]; rfl
    · rfl
  · rfl

@[simp] theorem State.slewUnit_portStill (s : State) : s.slewUnit.portStill = s.portStill := by
  unfold State.slewUnit
  split
  · simp only []; split <;> rfl
  · rfl

@[simp] theorem State.takeSlewPoint_portStill (s : State) : s.takeSlewPoint.portStill = s.portStill := by
  unfold State.takeSlewPoint
  split <;> simp

@[simp] theorem State.deadlineIfDue_still (s : State) (h : Nat) : (s.deadlineIfDue h).still = s.still := by
  unfold State.deadlineIfDue
  split
  · split <;> simp
  · rfl

@[simp] theorem State.takeDeadlines_still (s : State) : s.takeDeadlines.still = s.still :=
  foldl_keeps State.deadlineIfDue_still _ s

@[simp] theorem State.takeListenDeadline_still (s : State) : s.takeListenDeadline.still = s.still := by
  unfold State.takeListenDeadline
  split <;> simp

@[simp] theorem State.takePulseEnds_portStill (s : State) : s.takePulseEnds.portStill = s.portStill := rfl

@[simp] theorem State.settleStanding_portStill (s : State) : s.settleStanding.portStill = s.portStill := by
  unfold State.settleStanding
  rw [State.takePulseEnds_portStill, State.takeEpochClose_portStill, State.takeWindowClose_portStill,
    State.takeOwnSend_portStill, State.portStill_of_still (State.takeListenDeadline_still _),
    State.portStill_of_still (State.takeExpiries_still _), State.portStill_of_still (State.takeDeadlines_still _),
    State.portStill_of_still (State.takeFirings_still _)]

@[simp] theorem State.takeSlewRow_portStill (s : State) : s.takeSlewRow.portStill = s.portStill := by
  unfold State.takeSlewRow
  split <;> simp

@[simp] theorem State.settle_portStill (s : State) : s.settle.portStill = s.portStill := by
  unfold State.settle
  rw [State.takeSlewRow_portStill, State.settleStanding_portStill]

@[simp] theorem State.settleAll_portStill (fuel : Nat) (s : State) :
    (State.settleAll fuel s).portStill = s.portStill := by
  induction fuel generalizing s with
  | zero => rfl
  | succ fuel ih => unfold State.settleAll; split <;> simp [ih]

/-- Where nothing stands at T there is nothing to settle. -/
theorem State.settleAll_of_none (fuel : Nat) (s : State) (h : s.dueIn 0 = false) :
    State.settleAll fuel s = s := by
  cases fuel <;> simp [State.settleAll, h]

/-- A period in progress goes on as it is. -/
theorem State.beginPeriod_inProgress (s : State) (h : s.timebase.periodLeft ≠ 0) : s.beginPeriod = s :=
  if_neg h

/-- A period begins from the state with all that stands at T taken. -/
theorem State.beginPeriod_begins (s : State) (h : s.timebase.periodLeft = 0) :
    s.beginPeriod = { State.settleAll 4 s with
      timebase.periodLeft := ((40 * unitsPerNs : Nat) + (State.settleAll 4 s).timebase.trim).toNat } :=
  if_pos h

@[simp] theorem State.beginPeriod_portStill (s : State) : s.beginPeriod.portStill = s.portStill := by
  unfold State.beginPeriod
  split
  · exact State.settleAll_portStill 4 s
  · rfl

@[simp] theorem State.runPeriod_portStill (fuel : Nat) (stop : Option Nat) (s : State) :
    (State.runPeriod fuel stop s).portStill = s.portStill := by
  induction fuel generalizing stop s with
  | zero => rfl
  | succ fuel ih =>
    unfold State.runPeriod
    have running : ∀ n, (s.runNs n).portStill = s.portStill := fun _ => rfl
    have ended : s.endPeriod.portStill = s.portStill := rfl
    simp only []
    split_ifs <;> simp only [ih, State.settle_portStill, running, ended]

/-- A period that is used up, or stopped where T stands, leaves the state as it is. -/
theorem State.runPeriod_done (fuel : Nat) (stop : Option Nat) (s : State)
    (h : stop = some 0 ∨ s.timebase.periodLeft = 0) : State.runPeriod fuel stop s = s := by
  cases fuel <;> simp [State.runPeriod, h]

/-! ## Frames and beacons -/

@[simp] theorem State.alignTo_portStill (s : State) (b : Beacon) (mark : Int) (bits : List Bool) :
    (s.alignTo b mark bits).portStill = s.portStill := by
  unfold State.alignTo
  simp only []
  rw [State.portStill_of_still (State.judgeFrame_still _ _ _ _), State.changeState_portStill,
    State.alignTime_portStill]

@[simp] theorem State.listenFrame_portStill (s : State) (mark : Int) (bits : List Bool) (inError : Bool) :
    (s.listenFrame mark bits inError).portStill = s.portStill := by
  unfold State.listenFrame
  split
  · rfl
  · split
    · simp
    · split
      · split <;> simp
      · rfl

@[simp] theorem State.beaconEnded_still (s : State) (b : OwnBeacon) : (s.beaconEnded b).still = s.still := by
  unfold State.beaconEnded
  split <;> simp

@[simp] theorem State.sentWhole_still (s : State) (b : OwnBeacon) : (s.sentWhole b).still = s.still := by
  unfold State.sentWhole
  rw [State.beaconEnded_still]; rfl

end Sys2Proof.Machine
end

