-- ==== Sys2Proof/Laws/Wire.lean ====
section
/-!
SUPPORT. Laws/Wire.lean: the bits of the station port and the halves of the line. What a byte's bits spell, how many
bits SDO and a frame put out, and what the receiver reads from the halves of whole bits.
-/
namespace Sys2Proof

/-! ## SPI bits (R202) -/

@[simp] theorem byteBits_length (b : Byte) : (byteBits b).length = 8 := by
  unfold byteBits
  rw [List.length_map, List.length_range]

/-- The bits of a byte spell that byte. -/
@[simp] theorem byteOf_byteBits (b : Byte) : byteOf (byteBits b) = b := by
  revert b
  decide +kernel

namespace Machine

@[simp] theorem State.sdoBits_length (s : State) (clocks : Nat) : (s.sdoBits clocks).length = clocks := by
  unfold State.sdoBits
  rw [List.length_take, List.length_append, List.length_replicate]
  omega

@[simp] theorem msbFirst_length (count : Nat) (n : Int) : (msbFirst count n).length = count := by
  unfold msbFirst
  rw [List.length_map, List.length_range]

/-! ## Halves (R8, R199) -/

@[simp] theorem bitHalves_length (bit : Bool) : (bitHalves bit).length = 2 := by cases bit <;> rfl

@[simp] theorem flatMap_bitHalves_length (bits : List Bool) : (bits.flatMap bitHalves).length = 2 * bits.length := by
  induction bits with
  | nil => rfl
  | cons bit bits ih => rw [List.flatMap_cons, List.length_append, ih, bitHalves_length, List.length_cons]; omega

@[simp] theorem lineHalves_length (bits : List Bool) : (lineHalves bits).length = 8 + 2 * bits.length := by
  rw [lineHalves, List.length_append, flatMap_bitHalves_length, startOfFrame, List.length_replicate]

/-- The recessive halves at the end of whole bits: the second half of a last 0; `run` where there is no bit. -/
def runAfter (run : Nat) (bits : List Bool) : Nat :=
  bits.foldl (fun _ bit => if bit then 0 else 1) run

/-- The halves of whole bits are read as those bits, and the reading goes on behind them. -/
theorem readHalves_bits (bits : List Bool) (rest : List Half) (run : Nat) :
    readHalves run (bits.flatMap bitHalves ++ rest)
      = (bits ++ (readHalves (runAfter run bits) rest).1, (readHalves (runAfter run bits) rest).2) := by
  induction bits generalizing run with
  | nil => rfl
  | cons bit bits ih =>
    cases bit
    · have step : readHalves run ((false :: bits).flatMap bitHalves ++ rest)
          = (false :: (readHalves 1 (bits.flatMap bitHalves ++ rest)).1,
             (readHalves 1 (bits.flatMap bitHalves ++ rest)).2) := rfl
      rw [step, ih]
      rfl
    · have step : readHalves run ((true :: bits).flatMap bitHalves ++ rest)
          = (true :: (readHalves 0 (bits.flatMap bitHalves ++ rest)).1,
             (readHalves 0 (bits.flatMap bitHalves ++ rest)).2) := rfl
      rw [step, ih]
      rfl

/-- The timed rows are the rows, one for one. -/
@[simp] theorem Watch.rowsAt_map_snd (w : Watch) (passed : Nat) (halves : List Half) :
    (w.rowsAt passed halves).map Prod.snd = w.rows halves := by
  induction halves generalizing w passed with
  | nil => rfl
  | cons h rest ih =>
    rw [Watch.rowsAt, Watch.rows]
    split <;> simp [*]

/-! ## How far idle is at a frame's end (R8, R199; logs 25, 27) -/

@[simp] theorem idleAfter_error (bits : List Bool) : idleAfter bits true = 100 := rfl

@[simp] theorem idleAfter_zero (bits : List Bool) : idleAfter (bits ++ [false]) false = 75 := by
  simp [idleAfter, bitTime]

@[simp] theorem idleAfter_one (bits : List Bool) : idleAfter (bits ++ [true]) false = 100 := by
  simp [idleAfter, bitTime]

end Machine
end Sys2Proof
end

