-- ==== Sys2Proof/Tests/Slice0.lean ====
section
/-!
SUPPORT. Slice0.lean: the model's own tests. The smoke test of wellFormed; small tests of single steps, most of them
numbers of the spec's examples; and one witness theorem for every obligation that has hypotheses.
-/
namespace Sys2Proof.Tests
open Sys2Proof.Machine

set_option Elab.async false

/-! ## wellFormed refuses an ill-formed term of each check -/

theorem test_wellFormed_refuses :
    wellFormed (.leaveSecure 2) = false ∧ wellFormed (.unknownCommand 0x10) = false ∧
      wellFormed (.transactionDiscarded 16) = false ∧
      wellFormed (.frameEnd (List.replicate 251 true) false) = false ∧
      wellFormed (.referencePeriod (some 0)) = false ∧ wellFormed (.referencePeriod (some 42)) = false := by
  decide +kernel

theorem test_wellFormed_accepts :
    wellFormed (.leaveSecure 1) = true ∧ wellFormed (.unknownCommand 0x60) = true ∧
      wellFormed (.transactionDiscarded 15) = true ∧
      wellFormed (.frameEnd (List.replicate 250 true) false) = true ∧
      wellFormed (.referencePeriod (some 41)) = true ∧ wellFormed (.referencePeriod none) = true := by
  decide +kernel

/-! ## Small states -/

/-- A peer table of 8 with the own number 1, every peer in one state. -/
def table (st : PeerState) : List Peer :=
  [{ Peer.fresh with state := st }, Peer.own] ++ List.replicate 6 { Peer.fresh with state := st }

/-- Station 1 of a link with W = 8 and E = 256,000, in this state at this T, its peers ABSENT. -/
def stationAt (st : StationState) (t : Nat) : State :=
  { State.reset with
    sync.state := st
    sync.listenDeadline := if st = .listen then some 1060000 else none
    timebase.time := t
    timebase.high := t
    link.seqMark := t - 1
    port.straps.stn := 1
    port.frozen := true
    peers := table .absent }

/-- The same with every peer MEMBER. -/
def trackAt (t : Nat) : State := { stationAt .track t with peers := table .member }

/-- A beacon of station 3 in epoch 0 that sees stations 1 and 3. -/
def beacon3 (st : SenderState) : Beacon :=
  { sender := 3, state := st, epoch := 0, view := 0b1010, offer := none, held := [] }

/-- A state with a frame in reception whose corrected mark is this. -/
def receiving (s : State) (mark : Int) : State := { s with link.reception := some ⟨mark.toNat, mark⟩ }

/-- A frame that passes its CRC and bears the own number 1. -/
def ownFrame : List Bool := frameBits { beacon3 .track with sender := 1 }

/-- The SHARED trigger of station 3 with tag 9. -/
def name39 : Pair := ⟨3, 9⟩

/-- An entry PENDING for epoch 5 under that name. -/
def pending39 : Entry :=
  { kind := .shared name39, state := .pending, nextFire := 1280000, width := 5, lines := 1, period := 0,
    initialRepeats := 1, remaining := 1, fired := 0, skipped := 0, reportFires := true, deadline := some 768000,
    heldFlag := true }

/-- A LOCAL entry ARMED for T = 1,000, three times every two epochs. -/
def local1000 : Entry :=
  { kind := .localOnly, state := .armed, nextFire := 1000, width := 5, lines := 0b0011, period := 2,
    initialRepeats := 3, remaining := 3, fired := 0, skipped := 0, reportFires := true, deadline := none,
    heldFlag := false }

/-- The state with this entry in slot 0. -/
def withEntry (s : State) (e : Entry) : State := { s with schedule.slots := s.schedule.slots.set 0 (some e) }

/-- Trigger parameters: epoch 9, position 100, width 5, lines 0 and 1, once. -/
def params9 : TriggerParams := ⟨9, 100, 5, 3, 0, 1⟩

/-- What a command answers and where it leaves T, H and the station state. -/
def outcome (r : Host.Outcome State Fault Refusal) : Option (ResponseCode × Nat × Nat × StationState) :=
  match r with
  | .next s => some (s.port.holder.code, s.timebase.time, s.timebase.high, s.sync.state)
  | .fault _ => none
  | .refused _ => none

/-- The state that a command leaves, and the state before it where it leaves none. -/
def after (c : Instr) (s : State) : State :=
  match exec c s with
  | .next t => t
  | .fault _ => s
  | .refused _ => s

/-! ## Encodings -/

/-- The CRC of R200 over the ASCII digits 1 to 9, its published check value. -/
theorem test_crc_check_value :
    crc ([0x31, 0x32, 0x33, 0x34, 0x35, 0x36, 0x37, 0x38, 0x39].flatMap (fun n => bitsOf 8 n)) = 0x29B1 := by
  decide +kernel

/-- 75 field bits with no offer and no held pair, 16 of CRC (R199). -/
theorem test_frame_length_and_crc :
    (frameBits (beacon3 .track)).length = 91 ∧ crcPasses (frameBits (beacon3 .track)) = true := by
  decide +kernel

theorem test_decode_transactions :
    decodeTransaction Pins.allLow [0x20, 0x08, 0x01, 0x2C] = .configure 8 300 ∧
      decodeTransaction Pins.allLow [0x31, 0x02] = .leaveFast ∧
      decodeTransaction Pins.allLow [0x31, 0x01, 0x55] = .leaveSecure 1 ∧
      decodeTransaction Pins.allLow [0x20, 0x08, 0x01] = .transactionDiscarded 3 ∧
      decodeTransaction Pins.allLow [0x00, 0, 0] = .response 2 ∧
      decodeTransaction Pins.allLow [0xFF] = .unknownCommand 0xFF := by
  decide +kernel

/-- SPI carries 0x31, 0x01 most significant bit first; 15 bits of it are one whole byte, too few for LEAVE. -/
theorem test_spi_bits :
    byteBits 0x31 = [false, false, true, true, false, false, false, true] ∧
      decodeSpi Pins.allLow (byteBits 0x31 ++ byteBits 0x01 ++ [true]) = .leaveSecure 1 ∧
      decodeSpi Pins.allLow ((byteBits 0x31 ++ byteBits 0x01).take 15) = .transactionDiscarded 1 ∧
      decodeSpi Pins.allLow (byteBits 0x00 ++ byteBits 0x00 ++ [true]) = .response 2 := by
  decide +kernel

/-- Three bytes of fill when a command of one byte is clocked for three, and the fill of a RESTART (R178). -/
theorem test_fill_beyond_the_command :
    (after .readTime State.reset).sdoBits 24 = List.replicate 24 true ∧
      (after (.restart Pins.allLow) State.reset).port.sdo = [0xFF] ∧
      (after (.response 1) State.reset).sdoBits 24
        = List.replicate 8 true ++ byteBits 0xFF ++ List.replicate 8 true ∧
      (after (.response 2) State.reset).sdoBits 24 = List.replicate 16 true ++ byteBits 0x00 := by
  decide +kernel

/-- The record of chapter 10's worked example, READ TIME at T = 11,006,900 with serial 9 before it. -/
theorem test_read_time_worked_example :
    responseBytes (after .readTime
        { stationAt .acquire 11006900 with port.serial := 9, timebase.trim := 1201 }).port.holder
      = [0x12, 0x0A, 0x00, 0x00, 0x00, 0x00, 0x2A, 0x03, 0xE3, 0xB4, 0x00, 0x00, 0x04, 0xB1, 0x00, 0x00, 0x02] := by
  decide +kernel

/-- SDO drives nothing in a start or with CSn high, fill in a command, and the record's command byte after 0x00. -/
theorem test_sdo_level :
    ({ State.reset with port.starting := some .pin } : State).sdoLevel true [] = none ∧
      State.reset.sdoLevel false [] = none ∧
      (after .readTime State.reset).sdoLevel true (byteBits 0x12) = some true ∧
      (List.range 8).map (fun i => (after .readTime State.reset).sdoLevel true
          (byteBits 0x00 ++ List.replicate i true)) = (byteBits 0x12).map some := by
  decide +kernel

/-- From idle, 5 halves of dominant are noise and 6 a start-of-frame; 3 halves of recessive are no idle; after a frame
in error a start-of-frame waits for 4. -/
theorem test_receiver_watches_the_line :
    (Watch.waiting 0).rows (List.replicate 4 .recessive ++ List.replicate 5 .dominant ++ [.recessive]) = [] ∧
      (Watch.waiting 0).rows (List.replicate 4 .recessive ++ List.replicate 6 .dominant) = [.startOfFrame] ∧
      (Watch.waiting 0).rows (List.replicate 3 .recessive ++ List.replicate 8 .dominant) = [] ∧
      (Watch.waiting 4).rows (lineHalves [true, false] ++ List.replicate 4 .recessive)
        = [.startOfFrame, .frameEnd [true, false] false] ∧
      (Watch.waiting 4).rows (lineHalves [true] ++ [.unclear] ++ List.replicate 3 .recessive
          ++ List.replicate 8 .dominant) = [.startOfFrame, .frameEnd [true] true] ∧
      (Watch.waiting 4).rows (lineHalves [true] ++ [.unclear] ++ List.replicate 4 .recessive
          ++ List.replicate 8 .dominant) = [.startOfFrame, .frameEnd [true] true, .startOfFrame] := by
  decide +kernel

/-- After a start-of-frame of 3 bit times the line is idle at the fourth recessive half, 5 bit times after the mark, and
the receiver takes a start-of-frame from there. -/
theorem test_idle_counts_from_the_end_of_a_short_start_of_frame :
    (Watch.waiting 4).rows (List.replicate 6 .dominant ++ List.replicate 4 .recessive ++ lineHalves [true]
        ++ List.replicate 4 .recessive)
      = [.startOfFrame, .frameEnd [] false, .startOfFrame, .frameEnd [true] false] ∧
    (Watch.waiting 4).rows (List.replicate 5 .dominant ++ [.unclear] ++ List.replicate 8 .dominant) = [] ∧
    (Watch.waiting 4).rows (List.replicate 6 .dominant ++ [.unclear, .dominant] ++ bitHalves true
        ++ List.replicate 4 .recessive) = [.startOfFrame, .frameEnd [true] false] := by
  decide +kernel

/-- A start-of-frame stands at its leading edge and a frame's end at the end of its last bit: the line is idle 3 halves
later after a 0, 4 after a 1, and 2 after a start-of-frame of 3 bit times alone; an error stands at its half. -/
theorem test_rows_stand_at_their_instants :
    (Watch.waiting 4).rowsAt 10 (lineHalves [true, false] ++ List.replicate 3 .recessive)
        = [(10, .startOfFrame), (22, .frameEnd [true, false] false)] ∧
      (Watch.waiting 4).rowsAt 10 (lineHalves [true] ++ List.replicate 3 .recessive) = [(10, .startOfFrame)] ∧
      (Watch.waiting 4).rowsAt 10 (lineHalves [true] ++ List.replicate 4 .recessive)
        = [(10, .startOfFrame), (20, .frameEnd [true] false)] ∧
      (Watch.waiting 4).rowsAt 10 (List.replicate 6 .dominant ++ List.replicate 4 .recessive)
        = [(10, .startOfFrame), (18, .frameEnd [] false)] ∧
      (Watch.waiting 4).rowsAt 10 (lineHalves [true] ++ [.unclear])
        = [(10, .startOfFrame), (21, .frameEnd [true] true)] ∧
      (after (.frameEnd [true, false] false) (receiving State.reset 0)).link.idleIn = 75 := by
  decide +kernel

/-- After a frame in error the receiver waits until T has run 100 ns: two periods are too few, three enough. -/
theorem test_start_of_frame_waits_for_idle :
    (let error := after (.frameEnd [] true) (receiving State.reset 0)
     let two := after (.referencePeriod none) (after (.referencePeriod none) error)
     let three := after (.referencePeriod none) two
     (error.link.idleIn, two.link.idleIn, after .startOfFrame two == two, three.link.idleIn,
       (after .startOfFrame three).link.reception) = (100, 20, true, 0, some ⟨120, 120⟩)) := by
  decide +kernel

/-- The halves of bits 0 and 1, read back where the line goes idle, and a half that reads as neither (R8, R199). -/
theorem test_manchester_halves :
    lineHalves [false, true]
        = List.replicate 8 .dominant ++ [.dominant, .recessive, .recessive, .dominant] ∧
      frameRow [.dominant, .recessive, .recessive, .dominant, .recessive, .recessive, .recessive, .recessive]
        = some (.frameEnd [false, true] false) ∧
      frameRow [.recessive, .dominant, .dominant, .recessive, .recessive, .recessive, .recessive]
        = some (.frameEnd [true, false] false) ∧
      frameRow [.recessive, .dominant, .dominant, .dominant] = some (.frameEnd [true] true) ∧
      frameRow [.recessive, .dominant, .unclear] = some (.frameEnd [true] true) ∧
      frameRow [.recessive, .dominant, .recessive, .recessive] = none ∧
      frameRow (List.replicate 250 [Half.recessive, .dominant]).flatten = some .receiveTimeout := by
  decide +kernel

/-- The rows of R40's table. -/
theorem test_resolve_epoch :
    resolveEpoch 7003 12 = 7003 ∧ resolveEpoch 4294967295 5 = 4294967295 ∧
      resolveEpoch 0 2147483648 = 4294967296 := by
  decide

/-! ## Arithmetic -/

/-- Rows of R72's table, NEAREST_EVEN, TOWARD_ZERO, DOWN, UP. -/
theorem test_rounding_modes :
    [Rounding.nearestEven, .towardZero, .down, .up].map (fun m => roundQuotient m 41 2) = [20, 20, 20, 21] ∧
      [Rounding.nearestEven, .towardZero, .down, .up].map (fun m => roundQuotient m (-295) 4)
        = [-74, -73, -74, -73] ∧
      [Rounding.nearestEven, .towardZero, .down, .up].map (fun m => roundQuotient m (-1) 4) = [0, 0, -1, 0] := by
  decide

/-- A row of R77's table: R = +1,200, c = +3, g = 16. -/
theorem test_trim_update :
    (decideCorrection ConfigStore.defaults .track 1200 [3, 3]).trimAfter = 1201 ∧
      (decideCorrection ConfigStore.defaults .track 1200 [3, 3]).applied = 3 := by
  decide

/-! ## Single steps -/

theorem test_reset_reads_status : outcome (exec .readStatus State.reset) = some (.ok, 0, 0, .dormant) := by
  decide +kernel

theorem test_step_takes_the_front :
    (match step { State.reset with pending := [.configure 8 300, .join] } with
      | .next t => some (t.port.config.slewMax, t.pending)
      | .fault _ => none
      | .refused _ => none) = some (300, [.join]) := by
  decide +kernel

theorem test_configure_above_range : outcome (exec (.configure 8 1001) State.reset) = some (.invalid, 0, 0, .dormant) := by
  decide +kernel

/-- The deadline of station 1 after a JOIN at T = 4,000: T + 4E + L. -/
theorem test_join_deadline :
    (after .join { stationAt .dormant 4000 with port.frozen := false }).sync.listenDeadline
      = some (4000 + 1024000 + 32000) := by
  decide +kernel

theorem test_reference_period_from_reset :
    outcome (exec (.referencePeriod none) State.reset) = some (.ok, 40, 40, .dormant) := by
  decide +kernel

/-- A firing on time: two lines pulse for 100 ns, and the entry moves on by two epochs. -/
theorem test_trigger_fire :
    (after (.triggerFire 0) (withEntry (stationAt .dormant 1000) local1000)).schedule.lines
        = [⟨100, true⟩, ⟨100, true⟩, ⟨0, false⟩, ⟨0, false⟩] ∧
      ((after (.triggerFire 0) (withEntry (stationAt .dormant 1000) local1000)).entry 0).map
        (fun e => (e.nextFire, e.fired, e.remaining)) = some (513000, 1, 2) := by
  decide +kernel

/-- R16's example: a corrected mark at position 99,750 is a lead of +250 ns. -/
theorem test_good_beacon_lead :
    ((after (.frameEnd (frameBits (beacon3 .track)) false)
      (receiving (stationAt .acquire 110000) 99750)).peer 3).map (fun e => (e.state, e.currentLead))
      = some (.candidate, some 250) := by
  decide +kernel

/-- The alignment of chapter 2's worked example. -/
theorem test_alignment_worked_example :
    (let b : Beacon :=
      { sender := 5, state := .track, epoch := 7003, view := 0b100000, offer := none, held := [] }
     let s := receiving { stationAt .listen 3150810 with port.straps.stn := 6,
                                                         peers := (table .absent).reverse } 3140060
     outcome (exec (.frameEnd (frameBits b) false) s)) = some (.ok, 1792942750, 1792942750, .acquire) := by
  decide +kernel

/-- A forward step of +G at the epoch close of chapter 1's worked example. -/
theorem test_forward_step :
    (let lead : Peer := { Peer.fresh with state := .member, currentLead := some 4000 }
     let s : State := { stationAt .acquire 10752000 with
       peers := [lead, Peer.own] ++ List.replicate 6 lead }
     outcome (exec .epochClose s)) = some (.ok, 10756000, 10756000, .acquire) := by
  decide +kernel

/-- The first slew point of chapter 2's worked example: T goes from 25,664,000 to 25,664,001. -/
theorem test_slew_unit :
    outcome (exec .slewPoint
      { stationAt .track 25664000 with
        timebase.slewAmount := 3, timebase.slewBase := some 25600000, timebase.slewLeft := 3 })
      = some (.ok, 25664001, 25664001, .track) := by
  decide +kernel

/-- Epoch 0 closes at the end of a period in TRACK: the next one runs at the trim that the close gives, +25 ppb
(R29). -/
theorem test_period_after_a_close_runs_at_its_trim :
    (let lead : Peer := { Peer.fresh with state := .member, currentLead := some 100 }
     let s : State := { stationAt .track 255960 with peers := [lead, Peer.own] ++ List.replicate 6 lead }
     let first := after (.referencePeriod none) s
     let second := after (.referencePeriod none) first
     (first.now, first.timebase.trim, first.timebase.residue, second.now, second.timebase.trim,
       second.timebase.residue) = (256000, 0, 0, 256040, 25, 25)) := by
  decide +kernel

/-- An epoch close at a period's last whole ns steps T by 4,000 there; the 0.004 ns that elapse after it are kept
(R34). -/
theorem test_step_keeps_what_elapses_after_it :
    (let lead : Peer := { Peer.fresh with state := .member, currentLead := some 4000 }
     let s : State := { stationAt .acquire 255960 with
       peers := [lead, Peer.own] ++ List.replicate 6 lead, timebase.trim := 100000 }
     let t := after (.referencePeriod none) s
     (t.now, t.timebase.residue, t.timebase.periodLeft) = (260000, 100000, 0)) := by
  decide +kernel

/-! ## Witnesses: every obligation's hypotheses are met, clause by clause -/

theorem test_witness_starts_hold_off :
    ({ State.reset with port.starting := some .pin } : State).port.starting ≠ none ∧
      isStartRow .readStatus = false ∧ isTransaction .readStatus = true ∧
      ({ State.reset with port.awaitCsHigh := true } : State).port.starting = none := by
  decide +kernel

theorem test_witness_transactions_that_act_on_nothing :
    State.reset.takes = true ∧ wellFormed (.unknownCommand 0xFF) = true ∧ State.reset.pending = [] := by
  decide +kernel

theorem test_witness_refused_commands :
    ∃ t, State.reset.takes = true ∧ (encodeTransaction .popEvent).isSome = true ∧ isRestart .popEvent = false ∧
      exec .popEvent State.reset = .next t ∧ t.port.holder.code ≠ .ok :=
  ⟨_, by decide +kernel, by decide +kernel, by decide +kernel, rfl, by decide +kernel⟩

theorem test_witness_read_entry :
    (withEntry State.reset local1000).takes = true ∧ (withEntry State.reset local1000).holds 0 local1000 ∧
      State.reset.schedule.slots[15]? = some none ∧ 16 ≤ (16 : Byte).toNat := by
  decide +kernel

theorem test_witness_read_schedule :
    State.reset.takes = true ∧ State.reset.schedule.slots.length = 16 ∧ (15 : Byte).toNat < 16 ∧
      16 ≤ (16 : Byte).toNat ∧ (withEntry State.reset local1000).entryList[0]? = some (0, local1000) := by
  decide +kernel

theorem test_witness_read_peer :
    State.reset.peers[(7 : Byte).toNat]? = some Peer.fresh ∧ State.reset.peers.length ≤ (8 : Byte).toNat := by
  decide +kernel

theorem test_witness_read_log :
    (after .epochClose (stationAt .acquire 256000)).takes = true ∧
      (after .epochClose (stationAt .acquire 256000)).correction.log.length = 1 ∧
      State.reset.correction.log.length ≤ (15 : Byte).toNat ∧ 16 ≤ (16 : Byte).toNat := by
  decide +kernel

theorem test_witness_event_queue :
    (after (.triggerFire 0) (withEntry State.reset { local1000 with nextFire := 0 })).capture.queue.length = 1 ∧
      State.reset.capture.queue = [] ∧
      16 ≤ (List.replicate 16 (EventRecord.capture 0 .rise ⟨0, 0⟩ .dormant)).length ∧
      (List.replicate 15 (EventRecord.capture 0 .rise ⟨0, 0⟩ .dormant)).length < 16 := by
  decide +kernel

theorem test_witness_configure :
    paramOf 23 = none ∧ paramOf 0 = none ∧ paramOf 8 = some .slewMax ∧ paramOf 22 = some .holdReaction ∧
      Param.names .holdReaction 3 = false ∧ Param.names .holdReaction 2 = true ∧
      (stationAt .dormant 0).port.frozen = true ∧ State.reset.port.frozen = false ∧
      ({ State.reset with sync.state := .halted } : State).sync.state ≠ .dormant ∧
      Param.accepts .slewMax 1001 = false ∧ Param.accepts .slewMax 1000 = true ∧
      Param.accepts .slewMax 10 = true ∧ State.reset.sync.state = .dormant := by
  decide +kernel

theorem test_witness_frozen_configuration :
    ∃ t, exec .readTime (stationAt .track 5) = .next t ∧ isRestart .readTime = false ∧
      isStartRow .readTime = false ∧ (stationAt .track 5).port.frozen = true :=
  ⟨_, rfl, by decide +kernel, by decide +kernel, by decide +kernel⟩

theorem test_witness_flag_bytes : (31 : Byte).toNat < 32 ∧ 32 ≤ (32 : Byte).toNat ∧ State.reset.takes = true := by
  decide +kernel

theorem test_witness_state_change :
    (withEntry (trackAt 5) pending39).holdsPending 0 name39 pending39 ∧
      (withEntry (trackAt 5) pending39).sync.state.agrees = true ∧ StationState.leaving.agrees = false ∧
      (trackAt 5).sync.holdLeft = false ∧ (withEntry (trackAt 5) pending39).capture.queue.length ≤ 16 := by
  decide +kernel

/-- Leaving TRACK abandons the entry, with its record. -/
theorem test_leaving_track_abandons :
    (((withEntry (trackAt 5) pending39).changeState .leaving .leaveSecure).capture.queue
      = [.abandoned 0 name39 ⟨5, 0⟩ .state 0]) := by
  decide +kernel

theorem test_witness_join :
    (trackAt 5).takes = true ∧ (trackAt 5).sync.state ≠ .dormant ∧
      ({ State.reset with port.holdLevel := true, port.config.holdReaction := .fast } : State).holdBars ∧
      ¬ State.reset.holdBars ∧ State.reset.boundsFit ∧
      ¬ ({ State.reset with port.config.lockWindow := 501 } : State).boundsFit ∧
      ({ State.reset with port.config.unlockBound := 4000 } : State).boundsFit := by
  decide +kernel

theorem test_witness_leave :
    (0 : Byte) ≠ 1 ∧ (0 : Byte) ≠ 2 ∧ (stationAt .halted 5).takes = true ∧ (stationAt .acquire 5).takes = true ∧
      (stationAt .listen 5).takes = true ∧ (stationAt .leaving 5).takes = true ∧ State.reset.takes = true := by
  decide +kernel

theorem test_witness_hold :
    (stationAt .leaving 5).port.starting = none ∧ (stationAt .leaving 5).port.holdLevel = false ∧
      ({ stationAt .leaving 5 with port.config.holdReaction := .secure } : State).port.config.holdReaction
        = .secure ∧
      ({ stationAt .dormant 5 with
          port.config.holdReaction := .fast, sync.holdLeft := true, port.holdLevel := true } : State).boundsFit ∧
      ({ stationAt .dormant 5 with
          port.config.holdReaction := .fast, sync.holdLeft := true } : State).sync.holdLeft = true := by
  decide +kernel

theorem test_witness_release :
    ({ State.reset with peers := table .excluded } : State).peers[0]? = some { Peer.fresh with state := .excluded } ∧
      State.reset.peers[1]? = some Peer.fresh ∧ Peer.fresh.state ≠ .excluded ∧
      State.reset.peers.length ≤ (8 : Byte).toNat := by
  decide +kernel

theorem test_witness_schedule :
    State.reset.schedule.slots.length = 16 ∧ 16 ≤ (16 : Byte).toNat ∧ params9.lines.toNat < 16 ∧
      State.reset.paramsInRange params9 ∧ ¬ State.reset.paramsInRange { params9 with width := 4096 } ∧
      ¬ State.reset.paramsInRange { params9 with targetPosition := 256000 } ∧
      State.reset.now < State.reset.targetOf params9 ∧
      (stationAt .dormant 2304100).targetOf params9 ≤ (stationAt .dormant 2304100).now ∧
      State.reset.isLowestFree 0 ∧ (withEntry State.reset local1000).isLowestFree 1 ∧
      (∀ h, h < 16 →
        ({ State.reset with schedule.slots := List.replicate 16 (some local1000) } : State).schedule.slots[h]?
          ≠ some none) := by
  decide +kernel

theorem test_witness_propose :
    (trackAt 5).takes = true ∧ (trackAt 5).schedule.ownProposal = none ∧ (trackAt 5).isLowestFree 0 ∧
      (trackAt 5).heldCount < 4 ∧
      (trackAt 5).now / 256000 + 8 ≤ (trackAt 5).targetOf params9 / 256000 ∧
      (trackAt 5).targetOf params9 / 256000 ≤ (trackAt 5).now / 256000 + 65535 ∧
      (trackAt 5).paramsInRange params9 ∧ (trackAt 5).schedule.tagCounter = 1 ∧
      (trackAt 5).tagFree (cyclicTag 1 0) = true ∧ cyclicTag 255 1 = 1 ∧
      (trackAt 5).targetOf { params9 with targetEpoch := 7 } / 256000 < (trackAt 5).now / 256000 + 8 := by
  decide +kernel

theorem test_witness_free_tag : (trackAt 5).isFreeTag 1 := by
  refine ⟨fun h e hh he => ?_, by decide +kernel⟩
  have none_held : ∀ j, j < 16 → (trackAt 5).schedule.slots[j]? = some none := by decide +kernel
  rw [State.holds, none_held h hh] at he
  cases he

theorem test_witness_cancel :
    (withEntry State.reset local1000).holds 0 local1000 ∧ (withEntry (trackAt 5) pending39).holds 0 pending39 ∧
      State.reset.schedule.slots[15]? = some none ∧ 16 ≤ (16 : Byte).toNat ∧
      (trackAt 5).now < pending39.nextFire - 2 * 256000 := by
  decide +kernel

theorem test_witness_starts :
    ({ State.reset with port.starting := some .powerOn } : State).port.starting = some .powerOn ∧
      State.reset.port.starting = none ∧ strapsValid ⟨7, 0, 0, false⟩ = true ∧
      strapsValid ⟨8, 0, 0, false⟩ = false ∧ strapsValid ⟨0, 3, 0, false⟩ = false ∧
      strapsValid ⟨31, 2, 2, true⟩ = true := by
  decide +kernel

theorem test_witness_peer_table :
    (peersAfterStart .pin ⟨1, 0, 0, false⟩ (table .excluded)).length = 8 ∧
      (table .excluded)[7]? = some { Peer.fresh with state := .excluded } ∧
      (table .member)[0]? = some { Peer.fresh with state := .member } ∧ (table .member)[1]? = some Peer.own := by
  decide +kernel

theorem test_witness_capture :
    State.reset.capture.cap0.level = false ∧ State.reset.capture.cap1.level = false ∧
      ({ State.reset with port.config.edge1 := .rise } : State).port.config.edge 1 = .rise ∧
      CaptureInput.passes ⟨false, some 0⟩ 999 = false ∧ CaptureInput.passes ⟨false, some 0⟩ 1000 = true := by
  decide +kernel

theorem test_witness_start_of_frame :
    State.reset.link.reception = none ∧ State.reset.link.beacon = none ∧ State.reset.link.idleIn = 0 ∧
      (after .receiveTimeout (receiving State.reset 0)).link.idleIn = 1 ∧
      (receiving State.reset 5).link.reception ≠ none := by
  decide +kernel

theorem test_witness_frames_that_reach_no_peer :
    (receiving (trackAt 110000) 99750).link.reception = some ⟨99750, 99750⟩ ∧ crcPasses ownFrame = true ∧
      senderField (fieldBits ownFrame) = some 1 ∧
      validBeacon (trackAt 0).straps (frameBits (beacon3 .track)) = some (beacon3 .track) ∧
      ¬ (trackAt 110000).markInInterval 3 104001 ∧ (trackAt 110000).markInInterval 3 104000 ∧
      (∀ j, j < 8 → ¬ (trackAt 110000).markInInterval j 104001) ∧
      resolveEpoch 1 0 ≠ 0 ∧ strapsValid (trackAt 0).straps = true ∧
      crcPasses [true] = false ∧ inSet (0b100000 : StationSet) 3 = false := by
  decide +kernel

theorem test_witness_mark_in_no_interval : ∀ j, ¬ (trackAt 110000).markInInterval j 104001 := by
  intro j h
  have below : j < 8 := h.1
  have outside : ∀ i, i < 8 → ¬ (trackAt 110000).markInInterval i 104001 := by decide +kernel
  exact outside j below h

theorem test_witness_bad_frames :
    (trackAt 110000).transmitting = true ∧ (trackAt 110000).markInInterval 3 96000 ∧
      (trackAt 110000).markInInterval 1 40000 ∧ (trackAt 0).peers[3]? = some { Peer.fresh with state := .member } ∧
      inSet (0b1000 : StationSet) 3 = true ∧ resolveEpoch 0 0 = 0 ∧
      (trackAt 0).port.config.frameThreshold ≤ min 255 (20 + 4) ∧
      min 255 (19 + 4) < (trackAt 0).port.config.frameThreshold := by
  decide +kernel

/-- Station 1 in TRACK with station 3 its only MEMBER, one bad frame from a trip. -/
def lastMember : State :=
  { stationAt .track 110000 with
    peers := (table .absent).set 3 { Peer.fresh with state := .member, frame := 20 } }

theorem test_witness_last_member :
    lastMember.sync.state = .track ∧ lastMember.peers[3]? = some { Peer.fresh with state := .member, frame := 20 } ∧
      ∀ m, m ≠ 3 → ¬ lastMember.memberAt m := by
  refine ⟨rfl, by decide +kernel, fun m hm ⟨e, he, member⟩ => ?_⟩
  have others : ∀ i, i < 8 → i ≠ 3 → (lastMember.peers[i]?).map (·.state) ≠ some .member := by decide +kernel
  have bound : m < 8 := (List.getElem?_eq_some_iff.1 he).1
  exact others m bound hm (by rw [he, Option.map_some, member])

/-- A timeout trips the last MEMBER in TRACK, which isolates the station. -/
theorem test_timeout_trips_and_isolates :
    (let t := after .receiveTimeout (receiving lastMember 99750)
     ((t.peer 3).map (fun e => (e.state, e.frame)), t.sync.state, t.sync.lastCause)
       = (some (.excluded, 24), .holdover, .isolated)) := by
  decide +kernel

theorem test_witness_timeouts_that_reach_no_peer :
    (stationAt .listen 110000).sync.state = .listen ∧
      (receiving (stationAt .listen 110000) 99750).link.reception = some ⟨99750, 99750⟩ ∧
      (receiving (trackAt 110000) 104001).link.reception = some ⟨104001, 104001⟩ := by
  decide +kernel

theorem test_witness_good_and_leaving_beacons :
    (receiving (trackAt 110000) 99750).transmitting = true ∧ crcPasses (frameBits (beacon3 .leaving)) = true ∧
      validBeacon (trackAt 0).straps (frameBits (beacon3 .leaving)) = some (beacon3 .leaving) ∧
      (trackAt 110000).markInInterval 3 99750 ∧ (trackAt 110000).timebase.high / 256000 = 0 ∧
      inSet (trackAt 110000).link.heard 3 = false ∧
      (trackAt 110000).peers[3]? = some { Peer.fresh with state := .member } ∧
      (stationAt .track 0).peers[3]? = some Peer.fresh ∧ Peer.fresh.state ≠ .self := by
  decide +kernel

/-- A beacon of station 3 in TRACK that offers its trigger with tag 9 for epoch 5. -/
def offering : Beacon := { beacon3 .track with offer := some ⟨9, 5, 0, 5, 1, 0, 1⟩, held := [name39] }

/-- What a command leaves in slot 0 and slot 1. -/
def slots01 (r : Host.Outcome State Fault Refusal) : List (Option (Option Entry)) :=
  match r with
  | .next s => [s.schedule.slots[0]?, s.schedule.slots[1]?]
  | .fault _ => []
  | .refused _ => []

theorem test_witness_offers :
    crcPasses (frameBits offering) = true ∧ validBeacon (trackAt 0).straps (frameBits offering) = some offering ∧
      (trackAt 110000).schedule.declined = [] ∧ (trackAt 110000).isLowestFree 0 ∧
      (trackAt 110000).heldCount < 4 ∧ (trackAt 110000).now / 256000 + 3 ≤ 5 := by
  decide +kernel

/-- The offer is taken by a member's beacon, and passed over from a peer that is no member. -/
theorem test_offer_is_taken_from_a_member_alone :
    slots01 (exec (.frameEnd (frameBits offering) false) (receiving (trackAt 110000) 99750))
        = [some (some pending39), some none] ∧
      slots01 (exec (.frameEnd (frameBits offering) false) (receiving (stationAt .track 110000) 99750))
        = [some none, some none] := by
  decide +kernel

theorem test_witness_alignment :
    (stationAt .listen 110000).sync.state = .listen ∧ (stationAt .listen 110000).sync.alignSources = 0 ∧
      ((stationAt .listen 110000).now : Int) - 99750 = (10250 : Nat) ∧
      10250 < 6 * guardTime (stationAt .listen 110000).straps ∧
      0 * 256000 + 3 * 32000 + 4000 + 10250 < 2 ^ 64 := by
  decide +kernel

theorem test_witness_own_send_instant :
    (trackAt 36000).atSendInstant (ownNumber (trackAt 36000).straps) ∧
      (stationAt .listen 36000).transmitting = false ∧ (trackAt 36000).transmitting = true ∧
      (withEntry (trackAt 36000) { pending39 with kind := .shared ⟨1, 9⟩ }).holdsPending 0 ⟨1, 9⟩
        { pending39 with kind := .shared ⟨1, 9⟩ } :=
  ⟨⟨0, by decide +kernel, by decide +kernel, by decide +kernel⟩, by decide +kernel, by decide +kernel,
    by decide +kernel⟩

theorem test_witness_beacon_ends :
    (after .ownSendInstant (trackAt 36000)).link.beacon.isSome = true ∧
      ({ trackAt 36000 with link.overdriveRun := 2 } : State).transmitting = true ∧
      (trackAt 36000).link.overdriveRun < 2 ∧ (stationAt .leaving 36000).sync.state = .leaving ∧
      ((after .ownSendInstant { stationAt .leaving 36000 with sync.leavingCount := 1 }).link.beacon.map
        (·.leavingOrdinal)) = some 2 := by
  decide +kernel

theorem test_witness_window_close :
    (trackAt 124000).atWindowClose 3 ∧ inSet (trackAt 124000).link.heard 3 = false ∧
      (trackAt 124000).port.config.missLimit ≤ min 255 (2 + 1) ∧
      min 255 (1 + 1) < (trackAt 124000).port.config.missLimit ∧ (trackAt 124000).memberAt 7 :=
  ⟨⟨0, by decide +kernel, by decide +kernel, by decide +kernel⟩, by decide +kernel, by decide +kernel,
    by decide +kernel, ⟨{ Peer.fresh with state := .member }, by decide +kernel, rfl⟩⟩

theorem test_witness_epoch_close :
    (trackAt 256000).atEpochClose ∧ (stationAt .dormant 256000).atEpochClose ∧
      (decideCorrection ConfigStore.defaults .acquire 0 [4000]).action = .step ∧
      (decideCorrection ConfigStore.defaults .holdover 0 [4000]).action = .none ∧
      (decideCorrection ConfigStore.defaults .track 0 [4000]).action = .slew :=
  ⟨⟨0, by decide +kernel, by decide +kernel⟩, ⟨0, by decide +kernel, by decide +kernel⟩, by decide +kernel,
    by decide +kernel, by decide +kernel⟩

/-- Two foreign stations call a lone station to merge, and one with a higher number does not. -/
theorem test_witness_correction_result :
    ({ stationAt .track 256000 with sync.foreign := 0b1100 } : State).mergeCalls ∧
      ({ stationAt .track 256000 with sync.foreign := 0b0100 } : State).mergeCalled = false ∧
      7 ≤ ({ stationAt .acquire 256000 with sync.lockRun := 7 } : State).sync.lockRun ∧
      (decideCorrection ConfigStore.defaults .track 0 [1001, 1001]).correction.natAbs = 1001 ∧
      1023 ≤ ({ stationAt .holdover 256000 with sync.holdoverCount := 1023 } : State).sync.holdoverCount :=
  ⟨⟨2, by decide +kernel, by decide +kernel, by decide +kernel, .inl (by decide +kernel)⟩, by decide +kernel,
    by decide +kernel, by decide +kernel, by decide +kernel⟩

theorem test_witness_slew_point :
    (stationAt .track 25664000).nextSlewPoint ≠ some (stationAt .track 25664000).now ∧
      25664000 = 25600000 + (3 - 3 + 1) * epochLength (stationAt .track 0).straps / (3 + 1) ∧
      ({ stationAt .track 25664000 with timebase.slewLeft := -3 } : State).timebase.slewLeft < 0 := by
  decide +kernel

theorem test_witness_firing :
    (withEntry (stationAt .dormant 1000) local1000).holds 0 local1000 ∧ local1000.state = .armed ∧
      local1000.nextFire = (stationAt .dormant 1000).now ∧ local1000.reportFires = true := by
  decide +kernel

theorem test_witness_jumps :
    (withEntry State.reset local1000).holds 0 local1000 ∧ 999 < local1000.nextFire ∧ local1000.nextFire ≤ 1000 ∧
      1 ≤ local1000.remaining ∧ 1 + (512999 - local1000.nextFire) / (local1000.period * 256000) = 1 ∧
      1 + (1025000 - local1000.nextFire) / (local1000.period * 256000) = 3 := by
  decide +kernel

/-- A jump from 999 to 1,025,000 passes all three repetitions of the entry: one late, two skipped. -/
theorem test_late_firing :
    (let s : State := withEntry State.reset local1000
     let t := s.jumpSchedule 999 1025000
     (s.capture.queue.length ≤ 16) ∧ t.schedule.slots[0]? = some none ∧
       t.capture.queue = [.fire 0 .localOnly ⟨0, 1000⟩ true 2] ∧
       s.lateRecords 999 1025000 = t.capture.queue ∧
       t.schedule.lines = [⟨100, true⟩, ⟨100, true⟩, ⟨0, false⟩, ⟨0, false⟩]) := by
  decide +kernel

/-- The step of +4,000 at T = 256,000 passes the own send instant of station 0 and not that of station 1. -/
theorem test_witness_step_over_the_own_send_instant :
    (decideCorrection ConfigStore.defaults .acquire 0 [4000, 4000, 4000]).correction = 4000 ∧
      (decideCorrection ConfigStore.defaults .acquire 0 [4000, 4000, 4000]).action = .step ∧
      (decideCorrection ConfigStore.defaults .acquire 0 [-4000, -4000, -4000]).correction = -4000 ∧
      strapsValid (stationAt .acquire 256000).straps = true ∧ 260000 < 256000 + epochLength (stationAt .acquire 0).straps ∧
      (256000 < 1 * 256000 + 0 * 32000 + 4000 ∧ 1 * 256000 + 0 * 32000 + 4000 ≤ 260000) ∧
      260000 < 1 * 256000 + 1 * 32000 + 4000 := by
  decide +kernel

theorem test_witness_pending_entries :
    (withEntry (trackAt 768000) pending39).holdsPending 0 name39 pending39 ∧
      pending39.deadline = some (trackAt 768000).now ∧
      (withEntry (trackAt 768000) pending39).armingHolds name39 = false ∧
      (withEntry { trackAt 5 with peers := (table .member).map (fun e => { e with held := [name39] }) }
        pending39).armingHolds name39 = true := by
  decide +kernel

theorem test_witness_listen_deadline_and_pulse_end :
    (stationAt .listen 1060000).sync.listenDeadline = some (stationAt .listen 1060000).now ∧
      (stationAt .listen 1059999).sync.listenDeadline ≠ some (stationAt .listen 1059999).now ∧
      State.reset.schedule.lines[3]? = some ⟨0, false⟩ ∧
      (after (.triggerFire 0) (withEntry (stationAt .dormant 1000) local1000)).schedule.lines[0]?
        = some ⟨100, true⟩ := by
  decide +kernel

theorem test_witness_reference_period :
    State.reset.timebase.periodLeft = 0 ∧
      ((1000000000 : Nat) : Int) = State.reset.timebase.residue + 40 * 25000000 + State.reset.timebase.trim ∧
      40 = 1000000000 / 25000000 ∧ State.reset.now + 40 < 2 ^ 64 ∧
      (∀ d, d < 40 → State.reset.dueIn d = false) := by
  decide +kernel

/-- A period at T = 123,990 meets the window close at 124,000; one that begins there meets it before it begins. -/
theorem test_witness_period_meets_an_instant :
    (let s : State := { stationAt .track 123990 with timebase.trim := 100000 }
     let v : State := { stationAt .track 124000 with
       link.seqMark := 123989, timebase.trim := 100000, timebase.periodLeft := 1000100000 - 10 * 25000000 }
     (∀ i, i < 10 → s.dueIn i = false) ∧ s.dueIn 10 = true ∧ s.schedule.lines.length = 4 ∧
       v.settle.timebase.residue = 0 ∧ v.settle.timebase.periodLeft = 1000100000 - 10 * 25000000 ∧
       (∀ i, i ≤ (1000100000 - 10 * 25000000) / 25000000 → v.settle.dueIn i = false) ∧
       10 * 25000000 < 1000100000 ∧ 40 = 1000100000 / 25000000 ∧
       (stationAt .track 124000).dueIn 0 = true ∧ (stationAt .track 124000).settle.dueIn 0 = false) := by
  decide +kernel

theorem test_witness_line_levels :
    State.reset.schedule.lines[(3 : Fin 4).val]? = some ⟨0, false⟩ ∧ State.reset.trgHigh 3 = false ∧
      ({ State.reset with port.config.level3 := .low } : State).trgHigh 3 = true ∧
      ({ State.reset with port.config.level3 := .low, port.starting := some .pin } : State).trgHigh 3 = false := by
  decide +kernel

theorem test_witness_leads_and_round_trips :
    (∀ l ∈ ([4000, -4000] : List Int), l.natAbs ≤ 4000) ∧ wellFormed (.leaveSecure 0) = true ∧
      encodeTransaction (.leaveSecure 0) = some [0x31, 0] ∧ (beacon3 .track).sender < 32 ∧
      (beacon3 .track).held.length ≤ 4 ∧ resolveEpoch 0 2147483648 ≠ 0 := by
  decide +kernel

theorem test_witness_rows_that_leave_time :
    ∃ t, exec .windowClose (trackAt 124000) = .next t ∧ isRestart .windowClose = false ∧
      isStartRow .windowClose = false ∧ runsTime .windowClose = false :=
  ⟨_, rfl, rfl, rfl, rfl⟩

/-- The last MEMBER without the pair goes at its window close, and the entry arms. -/
theorem test_witness_armed_on_evidence :
    (let held : Peer := { Peer.fresh with state := .member, held := [name39] }
     let s : State := withEntry { trackAt 124000 with
       peers := [held, Peer.own, held, held, held, held, held,
         { Peer.fresh with state := .excluded }] } pending39
     let t := after (.release 7) s
     (t.entry 0).map (fun e => (e.state, e.kind)) = some (.armed, .shared name39) ∧
       (s.entry 0).map (·.state) = some .pending ∧ runsTime (.release 7) = false) := by
  decide +kernel

/-- A running state that meets the invariants which have decidable parts, with a command to step. -/
theorem test_witness_ranges :
    (stationAt .track 5).capacitiesHold ∧ (stationAt .track 5).timeHolds ∧
      ∀ p ∈ allParams, p.accepts ((stationAt .track 5).port.config.get p) = true := by
  unfold State.capacitiesHold State.timeHolds
  decide +kernel

theorem test_witness_config_holds : (stationAt .track 5).configHolds := by
  intro p
  cases p <;> decide +kernel

/-- No slot of that state holds an entry. -/
theorem stationAt_holds_nothing (st : StationState) (t h : Nat) (e : Entry) : ¬ (stationAt st t).holds h e := by
  intro he
  have slots : (stationAt st t).schedule.slots = List.replicate 16 none := rfl
  rw [State.holds, slots, List.getElem?_replicate] at he
  split at he <;> cases he

/-- At an ordinary slew point the last window instant taken lies below T; the residue is at either side of 0. -/
theorem test_witness_only_slew_stands (residue : Int) :
    let s : State := { stationAt .track 25664000 with
      timebase.slewAmount := 3, timebase.slewBase := some 25600000, timebase.slewLeft := 3
      timebase.residue := residue }
    s.onlySlewStands ∧ s.link.seqMark < s.now ∧ s.port.starting = none ∧ 0 < s.timebase.slewLeft ∧
      s.now = 25600000 + (s.timebase.slewAmount.natAbs - s.timebase.slewLeft.natAbs + 1) * epochLength s.straps
        / (s.timebase.slewAmount.natAbs + 1) :=
  have noInstant : windowInstantAt (stationAt .track 25664000).straps 25664000 = none := by decide +kernel
  have noExpiry : ∀ d ∈ (stationAt .track 25664000).schedule.declined, d.expiry ≠ 25664000 := by decide +kernel
  have linesStill : ∀ l ∈ (stationAt .track 25664000).schedule.lines, l.remaining = 0 → l.active = false := by
    decide +kernel
  have atSlewPoint : 25664000 = 25600000 + (3 - 3 + 1) * epochLength (stationAt .track 25664000).straps / (3 + 1) := by
    decide +kernel
  ⟨⟨fun _ => noInstant, fun h e he => absurd he (stationAt_holds_nothing .track 25664000 h e), noExpiry,
    fun listens => absurd listens (by decide : StationState.track ≠ .listen), linesStill⟩,
    (by decide : 25663999 < 25664000), rfl, (by decide : (0 : Int) < 3), atSlewPoint⟩

theorem test_witness_accounting_and_agreement :
    (stationAt .track 5).accountingHolds ∧ (stationAt .track 5).agreementHolds := by
  refine ⟨fun h e he => absurd he (stationAt_holds_nothing _ _ _ _), rfl, ?_, ?_, ?_⟩
  · exact fun h e he => absurd he (stationAt_holds_nothing _ _ _ _)
  · exact fun h e he => absurd he (stationAt_holds_nothing _ _ _ _)
  · intro h he
    have : (stationAt .track 5).schedule.ownProposal = none := rfl
    rw [this] at he
    cases he

theorem test_witness_group :
    (stationAt .track 5).groupHolds := by
  refine ⟨by decide +kernel, by decide +kernel, fun j e he hj => ?_, fun ht => ?_, by decide +kernel⟩
  · have others : ∀ i, i < 8 → i ≠ 1 → ((stationAt .track 5).peers[i]?).map (·.state) = some .absent := by
      decide +kernel
    have bound : j < 8 := (List.getElem?_eq_some_iff.1 he).1
    have absent := others j bound (fun h => hj (h.trans (by decide +kernel)))
    rw [he] at absent
    intro self
    rw [Option.map_some, self] at absent
    cases absent
  · exact absurd ht (by decide +kernel)

theorem test_witness_joined_bounds :
    (stationAt .track 5).joinedHolds ∧ (stationAt .track 5).thresholdsHold ∧ (stationAt .track 5).leadsHold := by
  have quietPeers : ∀ e ∈ (stationAt .track 5).peers,
      e.state ≠ .candidate ∧ e.state ≠ .member ∧ e.currentLead = none ∧ e.lastLead = none := by decide +kernel
  refine ⟨⟨fun _ _ => by decide +kernel, fun _ => by decide +kernel⟩, fun e he hs => ?_, fun e he => ⟨?_, ?_⟩⟩
  · exact absurd hs (by have := quietPeers e he; tauto)
  · intro l hl
    rw [(quietPeers e he).2.2.1] at hl
    cases hl
  · intro l hl
    rw [(quietPeers e he).2.2.2] at hl
    cases hl

end Sys2Proof.Tests
end

section
/-!
The trigger schedule beside the rest of the state: what its events, one by one, leave as it stands (R119 to R173).
-/
namespace Sys2Proof.Machine

/-! ## What the schedule's own events leave as it stands -/

/-- Everything but the trigger schedule, the event queue and the overflow flag: what no firing, arming, abandonment or
jump of the schedule touches. -/
def State.offSchedule (s : State) : State :=
  { s with schedule := Schedule.start, capture.queue := [], port.alerts.overflow := false }

section
variable {s t : State} (h : t.offSchedule = s.offSchedule)
include h

theorem State.offSchedule_timebase : t.timebase = s.timebase := congrArg (·.timebase) h
theorem State.offSchedule_link : t.link = s.link := congrArg (·.link) h
theorem State.offSchedule_peers : t.peers = s.peers := congrArg (·.peers) h
theorem State.offSchedule_correction : t.correction = s.correction := congrArg (·.correction) h
theorem State.offSchedule_sync : t.sync = s.sync := congrArg (·.sync) h
theorem State.offSchedule_pending : t.pending = s.pending := congrArg (·.pending) h
theorem State.offSchedule_cap0 : t.capture.cap0 = s.capture.cap0 := congrArg (·.capture.cap0) h
theorem State.offSchedule_cap1 : t.capture.cap1 = s.capture.cap1 := congrArg (·.capture.cap1) h
theorem State.offSchedule_frozen : t.port.frozen = s.port.frozen := congrArg (·.port.frozen) h
theorem State.offSchedule_straps : t.port.straps = s.port.straps := congrArg (·.port.straps) h

/-- The station port differs in the overflow flag at most. -/
theorem State.offSchedule_port :
    t.port = { s.port with alerts.overflow := t.port.alerts.overflow } := by
  have same : { t.port with alerts.overflow := false } = { s.port with alerts.overflow := false } :=
    congrArg (·.port) h
  exact congrArg (fun p : Port => { p with alerts.overflow := t.port.alerts.overflow }) same

end

@[simp] theorem State.post_offSchedule (s : State) (r : EventRecord) : (s.post r).offSchedule = s.offSchedule := by
  unfold State.post; split <;> rfl

@[simp] theorem State.setSlot_offSchedule (s : State) (h : Nat) (e : Option Entry) :
    (s.setSlot h e).offSchedule = s.offSchedule := rfl

@[simp] theorem State.endProposal_offSchedule (s : State) (h : Nat) :
    (s.endProposal h).offSchedule = s.offSchedule := by
  unfold State.endProposal; split <;> rfl

@[simp] theorem State.pulseLines_offSchedule (s : State) (l : LineSet) (w : Nat) :
    (s.pulseLines l w).offSchedule = s.offSchedule := rfl

@[simp] theorem State.fireAs_offSchedule (s : State) (h : Nat) (e : Entry) (after : Option Entry) (late : Bool)
    (k : Nat) : (s.fireAs h e after late k).offSchedule = s.offSchedule := by
  unfold State.fireAs; simp only []; split <;> simp

@[simp] theorem State.fireIfDue_offSchedule (s : State) (h : Nat) :
    (s.fireIfDue h).offSchedule = s.offSchedule := by
  unfold State.fireIfDue State.fireOnTime
  split
  · split <;> simp
  · rfl

@[simp] theorem State.takeFirings_offSchedule (s : State) : s.takeFirings.offSchedule = s.offSchedule :=
  foldl_keeps State.fireIfDue_offSchedule _ s

@[simp] theorem State.takeExpiries_offSchedule (s : State) : s.takeExpiries.offSchedule = s.offSchedule := rfl

@[simp] theorem State.takePulseEnds_offSchedule (s : State) : s.takePulseEnds.offSchedule = s.offSchedule := rfl

@[simp] theorem State.takeReached_offSchedule (s : State) : s.takeReached.offSchedule = s.offSchedule := by
  unfold State.takeReached
  rw [State.takeExpiries_offSchedule, State.takeFirings_offSchedule]

@[simp] theorem State.lateFireIfPassed_offSchedule (a b : Nat) (s : State) (h : Nat) :
    (State.lateFireIfPassed a b s h).offSchedule = s.offSchedule := by
  unfold State.lateFireIfPassed State.fireLate
  split
  · split <;> simp
  · rfl

/-- The declined list is a part of the schedule. -/
theorem State.offSchedule_of_declined (s : State) (d : List Declined) :
    ({ s with schedule.declined := d } : State).offSchedule = s.offSchedule := rfl

@[simp] theorem State.jumpSchedule_offSchedule (s : State) (a b : Nat) :
    (s.jumpSchedule a b).offSchedule = s.offSchedule := by
  unfold State.jumpSchedule
  split
  · simp only []
    rw [State.offSchedule_of_declined, foldl_keeps (State.lateFireIfPassed_offSchedule a b)]
  · rfl

@[simp] theorem State.arm_offSchedule (s : State) (h : Nat) (name : Pair) (e : Entry) :
    (s.arm h name e).offSchedule = s.offSchedule := by
  unfold State.arm; simp

@[simp] theorem State.evaluateSlot_offSchedule (s : State) (h : Nat) :
    (s.evaluateSlot h).offSchedule = s.offSchedule := by
  unfold State.evaluateSlot
  split
  · split <;> simp
  · rfl

@[simp] theorem State.evaluateArming_offSchedule (s : State) : s.evaluateArming.offSchedule = s.offSchedule :=
  foldl_keeps State.evaluateSlot_offSchedule _ s

@[simp] theorem State.abandon_offSchedule (s : State) (h : Nat) (name : Pair) (e : Entry) (r : AbandonReason)
    (m : StationSet) : (s.abandon h name e r m).offSchedule = s.offSchedule := by
  unfold State.abandon; simp

@[simp] theorem State.abandonSlot_offSchedule (s : State) (h : Nat) :
    (s.abandonSlot h).offSchedule = s.offSchedule := by
  unfold State.abandonSlot
  split <;> simp

@[simp] theorem State.abandonPending_offSchedule (s : State) : s.abandonPending.offSchedule = s.offSchedule :=
  foldl_keeps State.abandonSlot_offSchedule _ s

@[simp] theorem State.deadlineIfDue_offSchedule (s : State) (h : Nat) :
    (s.deadlineIfDue h).offSchedule = s.offSchedule := by
  unfold State.deadlineIfDue
  split
  · split <;> simp
  · rfl

@[simp] theorem State.takeDeadlines_offSchedule (s : State) : s.takeDeadlines.offSchedule = s.offSchedule :=
  foldl_keeps State.deadlineIfDue_offSchedule _ s

@[simp] theorem State.takeOffer_offSchedule (s : State) (p : Nat) (o : Offer) :
    (s.takeOffer p o).offSchedule = s.offSchedule := by
  unfold State.takeOffer
  simp only []
  split
  · split <;> rfl
  · rfl

@[simp] theorem State.beaconNotice_offSchedule (s : State) (p : Nat) (o : Option Offer) :
    (s.beaconNotice p o).offSchedule = s.offSchedule := by
  unfold State.beaconNotice
  rw [State.evaluateArming_offSchedule]
  split <;> simp

@[simp] theorem State.cancelEntry_offSchedule (s : State) (h : Nat) (e : Entry) :
    (s.cancelEntry h e).offSchedule = s.offSchedule := by
  unfold State.cancelEntry State.declineCancelled
  simp only []
  split
  · rfl
  · rw [State.post_offSchedule]
    split
    · exact State.endProposal_offSchedule _ _
    · exact State.endProposal_offSchedule _ _

@[simp] theorem State.makeProposal_offSchedule (s : State) (h : Nat) (p : TriggerParams) (lines : LineSet) :
    (s.makeProposal h p lines).offSchedule = s.offSchedule := by
  unfold State.makeProposal
  exact State.evaluateSlot_offSchedule _ _

end Sys2Proof.Machine
end

section
/-!
The bounds that a JOIN established, as an invariant of the state, and the peer operations that keep it (R59, R62).
-/
namespace Sys2Proof.Machine

/-! ## What a JOIN established and what a trip guards, as one invariant -/

/-- An entry that stands as CANDIDATE or MEMBER is below every threshold, and its leads lie within the guard g
(R16, R59). -/
def Peer.guarded (c : ConfigStore) (g : Nat) (e : Peer) : Prop :=
  (e.state = .candidate ∨ e.state = .member → e.tripped c = false) ∧
    (∀ l, e.currentLead = some l → l.natAbs ≤ g) ∧ ∀ l, e.lastLead = some l → l.natAbs ≤ g

theorem Peer.tripped_eq_false (c : ConfigStore) (e : Peer) :
    e.tripped c = false ↔
      e.frame < c.frameThreshold ∧ e.outlier < c.outlierThreshold ∧ e.view < c.viewThreshold := by
  simp [Peer.tripped]

/-- The three parts that the statement names, with the parameters in their ranges: what makes each event keep them. -/
def State.guardedHolds (s : State) : Prop :=
  s.configHolds ∧ s.joinedHolds ∧ ∀ e ∈ s.peers, e.guarded s.port.config (guardTime s.straps)

theorem State.guardedHolds_iff (s : State) :
    s.guardedHolds ↔ s.configHolds ∧ s.joinedHolds ∧ s.thresholdsHold ∧ s.leadsHold := by
  have peers : (∀ e ∈ s.peers, e.guarded s.port.config (guardTime s.straps))
      ↔ s.thresholdsHold ∧ s.leadsHold := by
    simp only [Peer.guarded, Peer.tripped_eq_false]
    exact ⟨fun h => ⟨fun e he => (h e he).1, fun e he => (h e he).2⟩, fun h e he => ⟨h.1 e he, h.2 e he⟩⟩
  rw [State.guardedHolds, peers]

/-- What the invariant speaks of. -/
def State.guardedParts (s : State) : StationState × List Peer × Bool × ConfigStore × Straps :=
  (s.sync.state, s.peers, s.port.frozen, s.port.config, s.port.straps)

/-- The invariant speaks of these parts alone. -/
theorem State.guardedHolds_of_parts {s t : State} (h : t.guardedParts = s.guardedParts) (hs : s.guardedHolds) :
    t.guardedHolds := by
  simp only [State.guardedParts, Prod.mk.injEq] at h
  obtain ⟨state, peers, frozen, config, straps⟩ := h
  simpa only [State.guardedHolds, State.configHolds, State.joinedHolds, State.boundsFit, State.straps, state, peers,
    frozen, config, straps] using hs

/-- No event of the schedule touches these parts. -/
theorem State.guardedParts_of_offSchedule {s t : State} (h : t.offSchedule = s.offSchedule) :
    t.guardedParts = s.guardedParts :=
  congrArg (fun u => (u.sync.state, u.peers, u.port.frozen, u.port.config, u.port.straps)) h

theorem State.guardedHolds_of_offSchedule {s t : State} (h : t.offSchedule = s.offSchedule) (hs : s.guardedHolds) :
    t.guardedHolds :=
  State.guardedHolds_of_parts (State.guardedParts_of_offSchedule h) hs

/-- A station that neither is in DORMANT nor in HALTED has its configuration frozen (R95). -/
theorem State.guardedHolds.frozen {s : State} (hs : s.guardedHolds) (dormant : s.sync.state ≠ .dormant)
    (halted : s.sync.state ≠ .halted) : s.port.frozen = true :=
  hs.2.1.1 dormant halted

/-! ## One entry -/

theorem Peer.cleared_guarded {c : ConfigStore} {g : Nat} {e : Peer} (h : e.guarded c g) :
    e.cleared.guarded c g := by
  unfold Peer.cleared
  split
  · exact h
  all_goals exact ⟨by simp [Peer.fresh], by simp [Peer.fresh], by simp [Peer.fresh]⟩

theorem Peer.makeAbsent_guarded {c : ConfigStore} {g : Nat} {e : Peer} (h : e.guarded c g) :
    e.makeAbsent.guarded c g :=
  ⟨by simp [Peer.makeAbsent], by simp [Peer.makeAbsent], h.2.2⟩

/-- An arrival settles no entry as CANDIDATE or MEMBER at a threshold: one that leaves EXCLUDED has every penalty at
0, below any threshold (R55, R59). -/
theorem Peer.settle_guarded {c : ConfigStore} {g : Nat} {e : Peer}
    (positive : 0 < c.frameThreshold ∧ 0 < c.outlierThreshold ∧ 0 < c.viewThreshold)
    (current : ∀ l, e.currentLead = some l → l.natAbs ≤ g) (last : ∀ l, e.lastLead = some l → l.natAbs ≤ g) :
    (e.settle c).guarded c g := by
  refine ⟨fun standing => ?_, ?_, ?_⟩
  · rw [Peer.tripped_eq_false]
    revert standing
    unfold Peer.settle
    split
    case h_1 self => simp [self]
    case h_2 excluded =>
      split
      · rename_i zero
        obtain ⟨frame, outlier, view⟩ := zero
        simp only [frame, outlier, view]
        exact fun _ => positive
      · simp [excluded]
    case h_5 =>
      split
      · simp
      · exact fun _ => (Peer.tripped_eq_false c e).1 (by simpa using ‹¬ e.tripped c = true›)
    all_goals
      split
      · simp
      · have below := (Peer.tripped_eq_false c e).1 (by simpa using ‹¬ e.tripped c = true›)
        split <;> exact fun _ => below
  · unfold Peer.settle
    repeat' split
    all_goals exact current
  · unfold Peer.settle
    repeat' split
    all_goals exact last

theorem Peer.afterArrival_guarded {c : ConfigStore} {g : Nat} (e : Peer) (b : Beacon) {lead : Int} (n : Nat)
    (viewTest : Bool) (positive : 0 < c.frameThreshold ∧ 0 < c.outlierThreshold ∧ 0 < c.viewThreshold)
    (within : lead.natAbs ≤ g) : (e.afterArrival c b lead n viewTest).guarded c g := by
  refine Peer.settle_guarded positive (fun l hl => ?_) (fun l hl => ?_)
  · obtain rfl : lead = l := Option.some.inj hl
    exact within
  · obtain rfl : lead = l := Option.some.inj hl
    exact within

theorem Peer.afterLeaving_guarded {c : ConfigStore} {g : Nat} {e : Peer} (n : Nat) (h : e.guarded c g) :
    (e.afterLeaving n).guarded c g := by
  unfold Peer.afterLeaving
  split
  case h_1 | h_2 => exact (Peer.makeAbsent_guarded h : e.makeAbsent.guarded c g)
  all_goals exact h

/-- A bad frame that brings a CANDIDATE or MEMBER to a threshold trips it (R57, R59). -/
theorem Peer.afterBadFrame_guarded {c : ConfigStore} {g : Nat} {e : Peer} (h : e.guarded c g) :
    (e.afterBadFrame c).guarded c g := by
  obtain ⟨-, leads⟩ := h
  unfold Peer.afterBadFrame
  simp only []
  split
  case h_5 self => exact ⟨by simp [self], leads⟩
  case h_3 absent => exact ⟨by simp [absent], leads⟩
  case h_4 excluded => exact ⟨by simp [excluded], leads⟩
  all_goals
    split
    · exact ⟨by simp, leads⟩
    · exact ⟨fun _ => by simpa using ‹¬ _ = true›, leads⟩

theorem Peer.afterMiss_guarded {c : ConfigStore} {g : Nat} {e : Peer} (h : e.guarded c g) :
    (e.afterMiss c).guarded c g := by
  have missed : ({ e with missRun := min 255 (e.missRun + 1), goodRun := 0 } : Peer).guarded c g := h
  unfold Peer.afterMiss
  simp only []
  split
  case h_5 => exact h
  case h_3 | h_4 => exact missed
  all_goals
    split
    · exact Peer.makeAbsent_guarded missed
    · exact missed

theorem Peer.afterRelease_guarded {c : ConfigStore} {g : Nat} {e : Peer} (h : e.guarded c g) :
    e.afterRelease.guarded c g :=
  ⟨by simp [Peer.afterRelease, Peer.makeAbsent], by simp [Peer.afterRelease, Peer.makeAbsent], h.2.2⟩

theorem peersAfterStart_guarded (cause : StartCause) (straps : Straps) (old : List Peer) (c : ConfigStore) (g : Nat) :
    ∀ e ∈ peersAfterStart cause straps old, e.guarded c g := by
  have own : Peer.own.guarded c g :=
      ⟨by simp [Peer.own], by simp [Peer.own, Peer.fresh], by simp [Peer.own, Peer.fresh]⟩
  have fresh : Peer.fresh.guarded c g := ⟨by simp [Peer.fresh], by simp [Peer.fresh], by simp [Peer.fresh]⟩
  have kept : ∀ e : Peer, e.afterStart.guarded c g := by
    intro e
    unfold Peer.afterStart
    split
    case h_5 => exact fresh
    all_goals exact ⟨by simp [Peer.fresh], by simp [Peer.fresh], by simp [Peer.fresh]⟩
  intro e he
  obtain ⟨j, -, rfl⟩ := List.mem_map.1 he
  split
  · exact own
  · split
    · exact fresh
    · split
      · exact kept _
      · exact fresh

/-! ## The operations that keep the invariant -/

namespace State

/-- The thresholds lie in their ranges, above 0 (R185). -/
theorem configHolds.positive {s : State} (hs : s.configHolds) :
    0 < s.port.config.frameThreshold ∧ 0 < s.port.config.outlierThreshold ∧ 0 < s.port.config.viewThreshold := by
  have frame : 4 ≤ s.port.config.frameThreshold ∧ s.port.config.frameThreshold ≤ 255 :=
    of_decide_eq_true (hs .frameThreshold)
  have outlier : 4 ≤ s.port.config.outlierThreshold ∧ s.port.config.outlierThreshold ≤ 255 :=
    of_decide_eq_true (hs .outlierThreshold)
  have view : 4 ≤ s.port.config.viewThreshold ∧ s.port.config.viewThreshold ≤ 255 :=
    of_decide_eq_true (hs .viewThreshold)
  omega

/-- A state change, when the station has joined or the new state asks for no JOIN. -/
theorem enter_guardedHolds {s : State} {new : StationState} (cause : Cause)
    (joined : s.port.frozen = true ∨ new = .dormant ∨ new = .halted) (hs : s.guardedHolds) :
    (s.enter new cause).guardedHolds := by
  obtain ⟨config, ⟨-, fits⟩, peers⟩ := hs
  have port : (s.enter new cause).port.config = s.port.config ∧ (s.enter new cause).port.straps = s.port.straps :=
    ⟨portStill_config (still_portStill (enter_still s new cause)),
      portStill_straps (still_portStill (enter_still s new cause))⟩
  have frozen : (s.enter new cause).port.frozen = s.port.frozen := by
    have abandoned : s.abandonPending.port.frozen = s.port.frozen :=
      offSchedule_frozen (abandonPending_offSchedule s)
    have cleared : ∀ u : State, u.clearPeers.port.frozen = u.port.frozen := by
      intro u; unfold clearPeers; simp only []; split <;> rfl
    unfold enter
    simp only []
    split_ifs <;> simp only [cleared, raiseState_port, abandoned]
  refine ⟨?_, ⟨fun dormant halted => ?_, fun h => ?_⟩, ?_⟩
  · simpa only [configHolds, port.1] using config
  · rw [enter_sync] at dormant halted
    rw [frozen]
    exact joined.resolve_right fun h => h.elim dormant halted
  · simpa only [boundsFit, straps, port.1, port.2] using fits (frozen ▸ h)
  · simp only [enter_peers, straps, port.1, port.2]
    split
    · intro e he
      obtain ⟨e₀, he₀, rfl⟩ := List.mem_map.1 he
      exact Peer.cleared_guarded (peers e₀ he₀)
    · exact peers

end State
end Sys2Proof.Machine
end

section
/-!
The bounds kept by what ends a frame, a window and an epoch, and by a state change (R15, R56, R59).
-/
namespace Sys2Proof.Machine

/-! ## Acceptance intervals and classes (R2, R15) -/

/-- A mark in the acceptance interval of window j of epoch n lies between its start and 2G later (R2). -/
theorem intervalHolding_bounds {straps : Straps} {n j : Nat} {mark : Int} (h : intervalHolding straps n mark = some j) :
    ((n * epochLength straps + j * windowLength straps : Nat) : Int) ≤ mark ∧
      mark ≤ ((n * epochLength straps + j * windowLength straps + 2 * guardTime straps : Nat) : Int) := by
  unfold intervalHolding at h
  simp only [] at h
  split_ifs at h with inEpoch inWindow
  obtain rfl := Option.some.inj h
  obtain ⟨start, -, -⟩ := inEpoch
  have split := Nat.div_add_mod' (mark - (n * epochLength straps : Nat)).toNat (windowLength straps)
  omega

/-- The lead of a mark in its sender's acceptance interval lies within the guard (R16). -/
theorem leadOf_within {straps : Straps} {n j : Nat} {mark : Int} (h : intervalHolding straps n mark = some j) :
    (leadOf straps n j mark).natAbs ≤ guardTime straps := by
  have bounds := intervalHolding_bounds h
  unfold leadOf sendInstant
  omega

/-- A good beacon is valid and names the window epoch, and its mark lies in its sender's acceptance interval (R15). -/
theorem classify_good {straps : Straps} {n : Nat} {mark : Int} {bits : List Bool} {inError : Bool} {b : Beacon}
    (h : classify straps n mark bits inError = .good b) :
    intervalHolding straps n mark = some b.sender ∧ resolveEpoch b.epoch n = n := by
  unfold classify at h
  simp only [] at h
  split at h
  · cases h
  · split at h
    · split at h <;> cases h
    · split at h
      · cases h
        assumption
      · cases h

/-! ## The operations that keep the invariant of O59 -/

namespace State

theorem joinRefusal_eq_none {s : State} (h : s.joinRefusal = none) :
    s.sync.state = .dormant ∧ s.port.config.crossChecks (guardTime s.straps) = true := by
  unfold joinRefusal at h
  split_ifs at h with dormant held bounds
  exact ⟨by simpa using dormant, by simpa using bounds⟩

theorem boundsFit_iff_crossChecks (s : State) :
    s.boundsFit ↔ s.port.config.crossChecks (guardTime s.straps) = true := by
  simp [boundsFit, ConfigStore.crossChecks]

/-- Another sync controller in the same station state, another link engine, timebase or correction unit, and other
alert flags, leave the invariant as it is. -/
theorem guardedHolds_of_fields {s t : State} (state : t.sync.state = s.sync.state) (peers : t.peers = s.peers)
    (port : t.port.frozen = s.port.frozen ∧ t.port.config = s.port.config ∧ t.port.straps = s.port.straps)
    (hs : s.guardedHolds) : t.guardedHolds :=
  guardedHolds_of_parts (by simp only [guardedParts, state, peers, port]) hs

theorem raiseMembership_guardedHolds {s : State} (hs : s.guardedHolds) : s.raiseMembership.guardedHolds :=
  guardedHolds_of_fields rfl rfl ⟨rfl, rfl, rfl⟩ hs

theorem evaluateArming_guardedHolds {s : State} (hs : s.guardedHolds) : s.evaluateArming.guardedHolds :=
  guardedHolds_of_offSchedule (evaluateArming_offSchedule s) hs

theorem acceptJoin_guardedHolds {s : State} (allowed : s.joinRefusal = none) (hs : s.guardedHolds) :
    s.acceptJoin.guardedHolds := by
  obtain ⟨config, -, peers⟩ := hs
  have fits := (boundsFit_iff_crossChecks s).2 (joinRefusal_eq_none allowed).2
  have frozen : ({ s with port.frozen := true, sync.holdLeft := false, sync.alignSources := 0 } : State).guardedHolds :=
    ⟨config, ⟨fun _ _ => rfl, fun _ => fits⟩, peers⟩
  exact guardedHolds_of_fields rfl rfl ⟨rfl, rfl, rfl⟩ (enter_guardedHolds (new := .listen) .joined (.inl rfl) frozen)

theorem joinUnasked_guardedHolds {s : State} (hs : s.guardedHolds) : s.joinUnasked.guardedHolds := by
  unfold joinUnasked
  split
  · exact acceptJoin_guardedHolds ‹_› hs
  · exact hs

theorem changeState_guardedHolds {s : State} {new : StationState} (cause : Cause)
    (joined : s.port.frozen = true ∨ new = .dormant ∨ new = .halted) (hs : s.guardedHolds) :
    (s.changeState new cause).guardedHolds := by
  have entered := enter_guardedHolds cause joined hs
  unfold changeState
  simp only []
  split
  · exact joinUnasked_guardedHolds entered
  · exact entered

/-- A state change from a state that stands between JOIN and the way out. -/
theorem changeState_guardedHolds_of_joined {s : State} (new : StationState) (cause : Cause)
    (dormant : s.sync.state ≠ .dormant) (halted : s.sync.state ≠ .halted) (hs : s.guardedHolds) :
    (s.changeState new cause).guardedHolds :=
  changeState_guardedHolds cause (.inl (hs.frozen dormant halted)) hs

/-! ### The peer table -/

theorem setPeer_guardedHolds {s : State} (p : Nat) {e : Peer}
    (he : e.guarded s.port.config (guardTime s.straps)) (hs : s.guardedHolds) : (s.setPeer p e).guardedHolds :=
  ⟨hs.1, hs.2.1, fun x hx => (List.mem_or_eq_of_mem_set hx).elim (hs.2.2 x) (fun h => h ▸ he)⟩

theorem isolationCheck_guardedHolds {s : State} (old : PeerState) (hs : s.guardedHolds) :
    (s.isolationCheck old).guardedHolds := by
  unfold isolationCheck
  split
  · rename_i isolated
    exact changeState_guardedHolds_of_joined _ _ (by simp [isolated.1]) (by simp [isolated.1]) hs
  · exact hs

theorem updatePeer_guardedHolds {s : State} (p : Nat) (old : Peer) {new : Peer}
    (he : new.guarded s.port.config (guardTime s.straps)) (hs : s.guardedHolds) :
    (s.updatePeer p old new).guardedHolds := by
  have replaced := setPeer_guardedHolds p he hs
  unfold updatePeer
  simp only []
  split
  · exact replaced
  · exact isolationCheck_guardedHolds _ (evaluateArming_guardedHolds (raiseMembership_guardedHolds replaced))

/-- The entry of a station is one of the table's. -/
theorem guardedHolds.peer {s : State} (hs : s.guardedHolds) {p : Nat} {e : Peer} (h : s.peer p = some e) :
    e.guarded s.port.config (guardTime s.straps) :=
  hs.2.2 e (List.mem_of_getElem? h)

theorem badFrame_guardedHolds {s : State} (p : Nat) (hs : s.guardedHolds) : (s.badFrame p).guardedHolds := by
  unfold badFrame
  split
  · exact updatePeer_guardedHolds _ _ (Peer.afterBadFrame_guarded (hs.peer ‹_›)) hs
  · exact hs

theorem missedWindow_guardedHolds {s : State} (p : Nat) (hs : s.guardedHolds) : (s.missedWindow p).guardedHolds := by
  unfold missedWindow
  split
  · exact updatePeer_guardedHolds _ _ (Peer.afterMiss_guarded (hs.peer ‹_›)) hs
  · exact hs

theorem arrival_guardedHolds {s : State} (p : Nat) {lead : Int} (b : Beacon)
    (within : lead.natAbs ≤ guardTime s.straps) (hs : s.guardedHolds) : (s.arrival p lead b).guardedHolds := by
  unfold arrival
  split
  · exact hs
  · rename_i e he
    split
    · exact hs
    · split
      · exact updatePeer_guardedHolds _ _ (Peer.afterLeaving_guarded _ (hs.peer he)) hs
      · have arrived := Peer.afterArrival_guarded e b s.windowEpoch (s.viewTest e b) hs.1.positive within
        have replaced := setPeer_guardedHolds p arrived hs
        have noticed : ∀ u : State, u.guardedHolds → ∀ offer, (u.beaconNotice p offer).guardedHolds :=
          fun u hu offer => guardedHolds_of_offSchedule (beaconNotice_offSchedule u p offer) hu
        simp only []
        split
        · exact noticed _ replaced _
        · exact isolationCheck_guardedHolds _ (noticed _ (raiseMembership_guardedHolds replaced) _)

/-! ### Frames -/

theorem judgeFrame_guardedHolds {s : State} (mark : Int) (bits : List Bool) (inError : Bool) (hs : s.guardedHolds) :
    (s.judgeFrame mark bits inError).guardedHolds := by
  unfold judgeFrame
  split
  · exact changeState_guardedHolds _ (.inr (.inr rfl)) hs
  · split
    · exact hs
    · exact badFrame_guardedHolds _ hs
  · exact hs
  · unfold hearStray
    split
    · exact hs
    · exact guardedHolds_of_fields rfl rfl ⟨rfl, rfl, rfl⟩ hs
  · rename_i b good
    unfold deliverGood
    split
    · exact badFrame_guardedHolds _ hs
    · exact arrival_guardedHolds _ _ (leadOf_within (classify_good good).1)
        (guardedHolds_of_fields rfl rfl ⟨rfl, rfl, rfl⟩ hs)

/-- The timebase and the link engine are none of the parts. -/
theorem guardedParts_of_timebase_link (s : State) (b : Timebase) (l : Link) :
    ({ s with timebase := b, link := l } : State).guardedParts = s.guardedParts := rfl

/-- What an alignment leaves of the parts (R37). -/
theorem alignTime_guardedParts (s : State) (b : Nat) : (s.alignTime b).guardedParts = s.guardedParts := by
  unfold alignTime
  simp only []
  rw [guardedParts_of_offSchedule (jumpSchedule_offSchedule _ _ _), guardedParts_of_timebase_link,
    guardedParts_of_offSchedule (takeReached_offSchedule s)]

theorem listenFrame_guardedHolds {s : State} (listening : s.sync.state = .listen) (mark : Int) (bits : List Bool)
    (inError : Bool) (hs : s.guardedHolds) : (s.listenFrame mark bits inError).guardedHolds := by
  unfold listenFrame
  split
  · exact hs
  · split
    · exact changeState_guardedHolds _ (.inr (.inr rfl)) hs
    · split
      · split
        · have aligned := alignTime_guardedParts s (s.alignedTime ‹Beacon› mark)
          have state : (s.alignTime (s.alignedTime ‹Beacon› mark)).sync.state = .listen :=
            (congrArg Prod.fst aligned).trans listening
          exact judgeFrame_guardedHolds _ _ _
            (changeState_guardedHolds_of_joined _ _ (by simp [state]) (by simp [state])
            (guardedHolds_of_parts aligned hs))
        · exact hs
      · exact hs

theorem endFrame_guardedHolds {s : State} (bits : List Bool) (inError : Bool) (wait : Nat) (hs : s.guardedHolds) :
    (s.endFrame bits inError wait).guardedHolds := by
  unfold endFrame
  split
  · exact hs
  · have ended : ({ s with link.reception := none, link.idleIn := wait } : State).guardedHolds :=
      guardedHolds_of_fields rfl rfl ⟨rfl, rfl, rfl⟩ hs
    simp only []
    split
    case h_5 listening =>
      exact listenFrame_guardedHolds (s := { s with link.reception := none, link.idleIn := wait }) listening _ _ _ ended
    case h_6 | h_7 => exact ended
    all_goals exact judgeFrame_guardedHolds _ _ _ ended

/-! ### Own beacons -/

theorem beaconEnded_guardedHolds {s : State} (b : OwnBeacon) (hs : s.guardedHolds) :
    (s.beaconEnded b).guardedHolds := by
  unfold beaconEnded
  split
  · exact changeState_guardedHolds _ (.inr (.inl rfl)) hs
  · exact hs

theorem cutByOverdrive_guardedHolds {s : State} (b : OwnBeacon) (hs : s.guardedHolds) :
    (s.cutByOverdrive b).guardedHolds := by
  have cut : ∀ run, ({ s with link.beacon := none, link.overdriveRun := run, link.completeRun := 0 } :
      State).guardedHolds := fun run => guardedHolds_of_fields rfl rfl ⟨rfl, rfl, rfl⟩ hs
  unfold cutByOverdrive
  simp only []
  split
  · exact changeState_guardedHolds _ (.inr (.inr rfl)) (cut _)
  · exact beaconEnded_guardedHolds _ (cut _)

/-! ### Corrections -/

theorem clearLeads_guardedHolds {s : State} (hs : s.guardedHolds) : s.clearLeads.guardedHolds := by
  refine ⟨hs.1, hs.2.1, fun e he => ?_⟩
  obtain ⟨e₀, he₀, rfl⟩ := List.mem_map.1 he
  obtain ⟨standing, -, last⟩ := hs.2.2 e₀ he₀
  exact ⟨standing, by simp, last⟩

theorem noticeStep_guardedParts (s : State) (a b : Nat) : (s.noticeStep a b).guardedParts = s.guardedParts := by
  unfold noticeStep
  simp only []
  rw [guardedParts_of_offSchedule (jumpSchedule_offSchedule _ _ _)]
  split <;> rfl

theorem applyAction_guardedParts (s : State) (d : Decision) : (s.applyAction d).guardedParts = s.guardedParts := by
  unfold applyAction
  split
  · unfold stepTime
    simp only []
    rw [noticeStep_guardedParts, guardedParts_of_timebase_link,
      guardedParts_of_offSchedule (takeReached_offSchedule s)]
  · rfl
  · rfl

theorem recordFlags_guardedParts (s : State) (f : CorrFlags) : (s.recordFlags f).guardedParts = s.guardedParts := by
  unfold recordFlags
  simp only []
  split <;> rfl

theorem merge_guardedHolds {s : State} (dormant : s.sync.state ≠ .dormant) (halted : s.sync.state ≠ .halted)
    (hs : s.guardedHolds) : s.merge.guardedHolds :=
  guardedHolds_of_fields rfl rfl ⟨rfl, rfl, rfl⟩ (changeState_guardedHolds_of_joined .listen .merge dormant halted hs)

/-- The runs of the station state move no part but by a state change (R100). -/
theorem advanceRuns_guardedHolds {s : State} (c : Int) (a : Action) (dormant : s.sync.state ≠ .dormant)
    (halted : s.sync.state ≠ .halted) (hs : s.guardedHolds) : (s.advanceRuns c a).guardedHolds := by
  have counted : ∀ y : Sync, y.state = s.sync.state → ({ s with sync := y } : State).guardedHolds :=
    fun y hy => guardedHolds_of_fields hy rfl ⟨rfl, rfl, rfl⟩ hs
  have changed : ∀ (y : Sync) new cause, y.state = s.sync.state →
      (({ s with sync := y } : State).changeState new cause).guardedHolds := fun y new cause hy =>
    changeState_guardedHolds_of_joined new cause (by simpa [hy] using dormant) (by simpa [hy] using halted)
      (counted y hy)
  unfold advanceRuns
  split
  · exact iteInduction (fun _ => changed _ _ _ rfl) (fun _ => counted _ rfl)
  · exact iteInduction (fun _ => changed _ _ _ rfl) (fun _ => counted _ rfl)
  · exact iteInduction (fun _ => changed _ _ _ rfl)
      (fun _ => iteInduction (fun _ => changed _ _ _ rfl) (fun _ => counted _ rfl))
  all_goals exact hs

theorem handleResult_guardedHolds {s : State} (c : Int) (a : Action) (dormant : s.sync.state ≠ .dormant)
    (halted : s.sync.state ≠ .halted) (hs : s.guardedHolds) : (s.handleResult c a).guardedHolds := by
  unfold handleResult
  simp only []
  split
  · exact guardedHolds_of_fields rfl rfl ⟨rfl, rfl, rfl⟩ (merge_guardedHolds dormant halted hs)
  · exact guardedHolds_of_fields rfl rfl ⟨rfl, rfl, rfl⟩ (advanceRuns_guardedHolds c a dormant halted hs)

theorem correct_guardedHolds {s : State} (dormant : s.sync.state ≠ .dormant) (halted : s.sync.state ≠ .halted)
    (hs : s.guardedHolds) : s.correct.guardedHolds := by
  have parts : ∀ f r d, (((s.clearLeads.applyAction d).recordFlags f).writeLog r).guardedParts
      = s.clearLeads.guardedParts :=
    fun f _ d => (recordFlags_guardedParts _ f).trans (applyAction_guardedParts s.clearLeads d)
  have state : ∀ f r d, (((s.clearLeads.applyAction d).recordFlags f).writeLog r).sync.state = s.sync.state :=
    fun f r d => congrArg Prod.fst (parts f r d)
  unfold correct
  exact handleResult_guardedHolds _ _ (by rw [state]; exact dormant) (by rw [state]; exact halted)
    (guardedHolds_of_parts (parts _ _ _) (clearLeads_guardedHolds hs))

/-! ### Instants, and the running of T -/

theorem transmits_joined {st : StationState} (h : st.transmits = true) : st ≠ .dormant ∧ st ≠ .halted := by
  cases st <;> simp_all [StationState.transmits]

theorem takeOwnSend_guardedHolds {s : State} (hs : s.guardedHolds) : s.takeOwnSend.guardedHolds := by
  unfold takeOwnSend
  split
  · split <;> exact guardedHolds_of_fields rfl rfl ⟨rfl, rfl, rfl⟩ hs
  · exact hs

theorem markTaken_guardedHolds {s : State} (hs : s.guardedHolds) : s.markTaken.guardedHolds :=
  guardedHolds_of_fields rfl rfl ⟨rfl, rfl, rfl⟩ hs

theorem takeWindowClose_guardedHolds {s : State} (hs : s.guardedHolds) : s.takeWindowClose.guardedHolds := by
  unfold takeWindowClose
  split
  · split
    · exact missedWindow_guardedHolds _ (markTaken_guardedHolds hs)
    · exact markTaken_guardedHolds hs
  all_goals exact hs

theorem takeEpochClose_guardedHolds {s : State} (hs : s.guardedHolds) : s.takeEpochClose.guardedHolds := by
  have emptied : ({ s.markTaken with link.heard := 0 } : State).guardedHolds :=
    guardedHolds_of_fields rfl rfl ⟨rfl, rfl, rfl⟩ hs
  unfold takeEpochClose
  simp only []
  split
  · split
    · rename_i transmits
      exact correct_guardedHolds (transmits_joined transmits).1 (transmits_joined transmits).2 emptied
    · exact emptied
  · exact hs

theorem slewUnit_guardedHolds {s : State} (hs : s.guardedHolds) : s.slewUnit.guardedHolds := by
  unfold slewUnit
  simp only []
  split_ifs <;> exact guardedHolds_of_fields rfl rfl ⟨rfl, rfl, rfl⟩ hs

theorem takeSlewPoint_guardedHolds {s : State} (hs : s.guardedHolds) : s.takeSlewPoint.guardedHolds := by
  unfold takeSlewPoint
  split
  · exact slewUnit_guardedHolds hs
  · exact hs

theorem takeListenDeadline_guardedHolds {s : State} (hs : s.guardedHolds) : s.takeListenDeadline.guardedHolds := by
  unfold takeListenDeadline
  split
  · rename_i founds
    exact changeState_guardedHolds_of_joined _ _ (by simp [founds.1]) (by simp [founds.1]) hs
  · exact hs

theorem settleStanding_guardedHolds {s : State} (hs : s.guardedHolds) : s.settleStanding.guardedHolds := by
  have fired := guardedHolds_of_offSchedule (takeFirings_offSchedule s) hs
  have abandoned := guardedHolds_of_offSchedule (takeDeadlines_offSchedule _) fired
  have expired := guardedHolds_of_offSchedule (takeExpiries_offSchedule _) abandoned
  have closed := takeEpochClose_guardedHolds
    (takeWindowClose_guardedHolds (takeOwnSend_guardedHolds (takeListenDeadline_guardedHolds expired)))
  exact guardedHolds_of_offSchedule (takePulseEnds_offSchedule _) closed

theorem takeSlewRow_guardedHolds {s : State} (hs : s.guardedHolds) : s.takeSlewRow.guardedHolds := by
  unfold takeSlewRow
  split
  · exact takeSlewPoint_guardedHolds (settleStanding_guardedHolds hs)
  · exact takeSlewPoint_guardedHolds hs

theorem settle_guardedHolds {s : State} (hs : s.guardedHolds) : s.settle.guardedHolds :=
  takeSlewRow_guardedHolds (settleStanding_guardedHolds hs)

theorem settleAll_guardedHolds (fuel : Nat) {s : State} (hs : s.guardedHolds) : (settleAll fuel s).guardedHolds := by
  induction fuel generalizing s with
  | zero => exact hs
  | succ fuel ih =>
    unfold settleAll
    split
    · exact ih (settle_guardedHolds hs)
    · exact hs

theorem beginPeriod_guardedHolds {s : State} (hs : s.guardedHolds) : s.beginPeriod.guardedHolds := by
  unfold beginPeriod
  split
  · exact guardedHolds_of_fields rfl rfl ⟨rfl, rfl, rfl⟩ (settleAll_guardedHolds 4 hs)
  · exact hs

theorem runPeriod_guardedHolds (fuel : Nat) (stop : Option Nat) {s : State} (hs : s.guardedHolds) :
    (runPeriod fuel stop s).guardedHolds := by
  induction fuel generalizing stop s with
  | zero => exact hs
  | succ fuel ih =>
    unfold runPeriod
    simp only []
    split_ifs
    · exact hs
    · exact ih _ (settle_guardedHolds hs)
    · exact guardedHolds_of_fields rfl rfl ⟨rfl, rfl, rfl⟩ hs
    · exact ih _ (guardedHolds_of_fields rfl rfl ⟨rfl, rfl, rfl⟩ hs)

end State
end Sys2Proof.Machine
end

section
/-!
The bounds kept by the configuration store, the commands and every row, and so by every step (R59, R186).
-/
namespace Sys2Proof.Machine

/-! ### The configuration store -/

/-- Setting one parameter leaves every other one (R186). -/
theorem ConfigStore.get_set_of_ne (c : ConfigStore) {p q : Param} (value : Nat) (h : q ≠ p) :
    (c.set p value).get q = c.get q := by
  cases p <;> cases q <;> simp only [ConfigStore.set, ConfigStore.get] <;> exact absurd rfl h

/-- A parameter set to a value in its range reads as that value, a named one by its code (R184, R186). -/
theorem ConfigStore.get_set_self (c : ConfigStore) {p : Param} {value : Nat} (accepted : p.accepts value = true) :
    (c.set p value).get p = value := by
  have rounding : ∀ v, v < 4 → roundingCodes.idxOf (roundingCodes.getD v .nearestEven) = v := by decide
  have level : ∀ v, v < 2 → levelCodes.idxOf (levelCodes.getD v .high) = v := by decide
  have edge : ∀ v, v < 4 → edgeCodes.idxOf (edgeCodes.getD v .off) = v := by decide
  have reaction : ∀ v, v < 3 → reactionCodes.idxOf (reactionCodes.getD v .none) = v := by decide
  cases p
  case rounding => exact rounding value (of_decide_eq_true accepted)
  case level0 | level1 | level2 | level3 => exact level value (of_decide_eq_true accepted)
  case edge0 | edge1 => exact edge value (of_decide_eq_true accepted)
  case holdReaction => exact reaction value (of_decide_eq_true accepted)
  all_goals rfl

/-- CONFIGURE keeps every parameter in its range (R185, R186). -/
theorem ConfigStore.accepts_get_set (c : ConfigStore) {p : Param} {value : Nat} (accepted : p.accepts value = true)
    (held : ∀ q : Param, q.accepts (c.get q) = true) (q : Param) : q.accepts ((c.set p value).get q) = true := by
  by_cases same : q = p
  · rw [same, ConfigStore.get_set_self c accepted]
    exact accepted
  · rw [ConfigStore.get_set_of_ne c value same]
    exact held q

/-- Every default lies in its range (R185). -/
theorem ConfigStore.defaults_accepted (p : Param) : p.accepts (ConfigStore.defaults.get p) = true := by
  cases p <;> decide

namespace State

/-! ### Transactions and pins -/

/-- A transaction does what it takes, or nothing to these parts (R178, R196). -/
theorem transaction_guardedHolds {s : State} {take : State → State} (taken : (take s).guardedHolds)
    (hs : s.guardedHolds) : (s.transaction take).guardedHolds := by
  unfold transaction
  split
  · exact hs
  · split
    · exact guardedHolds_of_fields rfl rfl ⟨rfl, rfl, rfl⟩ hs
    · exact taken

theorem command_guardedHolds {s : State} (code : Byte) {act : State → Answer} (acted : (act s).after.guardedHolds)
    (hs : s.guardedHolds) : (s.command code act).guardedHolds :=
  transaction_guardedHolds (guardedHolds_of_fields rfl rfl ⟨rfl, rfl, rfl⟩ acted) hs

theorem readCommand_guardedHolds {s : State} (code : Byte) (read : State → ResponseCode × ResponseBody)
    (hs : s.guardedHolds) : (s.readCommand code read).guardedHolds :=
  command_guardedHolds code hs hs

theorem popAnswer_guardedHolds {s : State} (hs : s.guardedHolds) : s.popAnswer.after.guardedHolds := by
  unfold popAnswer
  split
  · exact guardedHolds_of_fields rfl rfl ⟨rfl, rfl, rfl⟩ hs
  · exact hs

theorem configureAnswer_guardedHolds {s : State} (ident : Byte) (value : Nat)
    (quiet : s.sync.state = .dormant → ∀ e ∈ s.peers, e.state ≠ .candidate ∧ e.state ≠ .member)
    (hs : s.guardedHolds) : (s.configureAnswer ident value).after.guardedHolds := by
  unfold configureAnswer
  split
  · exact hs
  · split_ifs with named frozen dormant accepted
    case neg =>
      obtain ⟨config, -, peers⟩ := hs
      have settled : s.sync.state = .dormant := by simpa using dormant
      have unfrozen : s.port.frozen ≠ true := frozen
      refine ⟨fun q => ConfigStore.accepts_get_set _ (by simpa using accepted) config q,
        ⟨fun h => absurd settled h, fun h => absurd h unfrozen⟩, fun e he => ?_⟩
      have low := quiet settled e he
      exact ⟨fun standing => (standing.elim low.1 low.2).elim, (peers e he).2⟩
    all_goals exact hs

theorem maskAnswer_guardedHolds {s : State} (mask enables : Byte) (hs : s.guardedHolds) :
    (s.maskAnswer mask enables).after.guardedHolds := by
  unfold maskAnswer
  split
  · exact guardedHolds_of_fields rfl rfl ⟨rfl, rfl, rfl⟩ hs
  all_goals exact hs

theorem clearAnswer_guardedHolds {s : State} (alertFlags corrFlags : Byte) (hs : s.guardedHolds) :
    (s.clearAnswer alertFlags corrFlags).after.guardedHolds := by
  unfold clearAnswer
  split
  · exact guardedHolds_of_fields rfl rfl ⟨rfl, rfl, rfl⟩ hs
  all_goals exact hs

theorem joinAnswer_guardedHolds {s : State} (hs : s.guardedHolds) : s.joinAnswer.after.guardedHolds := by
  unfold joinAnswer
  split
  · exact hs
  · exact acceptJoin_guardedHolds ‹_› hs

theorem leaveSecurely_guardedHolds {s : State} (cause : Cause) (hs : s.guardedHolds) :
    (s.leaveSecurely cause).guardedHolds := by
  unfold leaveSecurely
  split
  case h_1 state | h_2 state | h_3 state | h_4 state =>
    exact changeState_guardedHolds_of_joined _ _ (by simp [state]) (by simp [state]) hs
  all_goals exact hs

theorem leaveFast_guardedHolds {s : State} (cause : Cause) (hs : s.guardedHolds) :
    (s.leaveFast cause).guardedHolds := by
  unfold leaveFast
  split
  case h_6 | h_7 => exact hs
  all_goals exact changeState_guardedHolds _ (.inr (.inl rfl)) hs

/-- The hold-left marker is none of the parts. -/
theorem guardedHolds_of_marker {s : State} (marker : Bool) (hs : s.guardedHolds) :
    ({ s with sync.holdLeft := marker } : State).guardedHolds :=
  guardedHolds_of_fields rfl rfl ⟨rfl, rfl, rfl⟩ hs

theorem leaveSecureAnswer_guardedHolds {s : State} (mode : Byte) (hs : s.guardedHolds) :
    (s.leaveSecureAnswer mode).after.guardedHolds := by
  unfold leaveSecureAnswer
  split_ifs
  · exact hs
  · exact hs
  · exact leaveSecurely_guardedHolds _ (guardedHolds_of_marker false hs)

theorem leaveFastAnswer_guardedHolds {s : State} (hs : s.guardedHolds) : s.leaveFastAnswer.after.guardedHolds := by
  unfold leaveFastAnswer
  split
  · exact hs
  · exact leaveFast_guardedHolds _ (guardedHolds_of_marker false hs)

theorem releaseAnswer_guardedHolds {s : State} (station : Nat) (hs : s.guardedHolds) :
    (s.releaseAnswer station).after.guardedHolds := by
  unfold releaseAnswer
  split
  · exact hs
  · split
    · exact updatePeer_guardedHolds _ _ (Peer.afterRelease_guarded (hs.peer ‹_›)) hs
    · exact hs

theorem scheduleAnswer_guardedHolds {s : State} (p : TriggerParams) (options : Byte) (hs : s.guardedHolds) :
    (s.scheduleAnswer p options).after.guardedHolds := by
  have placed : ∀ h e, (s.setSlot h e).guardedHolds :=
    fun h e => guardedHolds_of_offSchedule (setSlot_offSchedule s h e) hs
  unfold scheduleAnswer
  repeat' split
  case h_2 => exact placed _ _
  all_goals exact hs

theorem proposeAnswer_guardedHolds {s : State} (p : TriggerParams) (hs : s.guardedHolds) :
    (s.proposeAnswer p).after.guardedHolds := by
  have proposed : ∀ h lines, (s.makeProposal h p lines).guardedHolds :=
    fun h lines => guardedHolds_of_offSchedule (makeProposal_offSchedule s h p lines) hs
  unfold proposeAnswer
  repeat' split
  case h_2.isFalse.isFalse.isFalse => exact proposed _ _
  all_goals exact hs

theorem cancelAnswer_guardedHolds {s : State} (handle : Byte) (hs : s.guardedHolds) :
    (s.cancelAnswer handle).after.guardedHolds := by
  unfold cancelAnswer
  split
  · exact hs
  · split
    · exact guardedHolds_of_offSchedule (cancelEntry_offSchedule s _ _) hs
    · exact hs

theorem holdAsserted_guardedHolds {s : State} (hs : s.guardedHolds) : s.holdAsserted.guardedHolds := by
  unfold holdAsserted
  split
  · exact hs
  · split
    case h_5 | h_6 | h_7 => exact hs
    all_goals exact leaveSecurely_guardedHolds _ (guardedHolds_of_marker true hs)
  · split
    case h_6 | h_7 => exact hs
    case h_5 => exact leaveFast_guardedHolds _ hs
    all_goals exact leaveFast_guardedHolds _ (guardedHolds_of_marker true hs)

theorem holdReleased_guardedHolds {s : State} (hs : s.guardedHolds) : s.holdReleased.guardedHolds := by
  unfold holdReleased
  split
  · exact joinUnasked_guardedHolds hs
  · exact hs

theorem captureEdge_guardedHolds {s : State} (input : Fin 2) (hs : s.guardedHolds) :
    (s.captureEdge input).guardedHolds := by
  have set : ∀ c, (s.setCapture input c).guardedHolds := by
    intro c
    unfold setCapture
    split <;> exact guardedHolds_of_fields rfl rfl ⟨rfl, rfl, rfl⟩ hs
  unfold captureEdge
  exact iteInduction (fun _ => guardedHolds_of_offSchedule (post_offSchedule _ _) (set _)) fun _ => set _

/-! ### Starts -/

theorem finishStart_guardedHolds (s : State) (cause : StartCause) (pins : Pins) (csnLow : Bool) :
    (s.finishStart cause pins csnLow).guardedHolds := by
  have config : (s.startValues cause pins csnLow).configHolds := ConfigStore.defaults_accepted
  have started : (s.startValues cause pins csnLow).guardedHolds :=
    ⟨config, ⟨fun dormant => absurd rfl dormant, fun frozen => by cases frozen⟩, peersAfterStart_guarded _ _ _ _ _⟩
  unfold finishStart strapCheck
  split_ifs
  · exact changeState_guardedHolds _ (.inr (.inr rfl)) started
  · exact joinUnasked_guardedHolds started
  · exact started

/-- What a row does only while no start is in progress (R196). -/
theorem running_guardedHolds {s u : State} (acted : u.guardedHolds) (hs : s.guardedHolds) :
    (if s.running then u else s).guardedHolds :=
  iteInduction (fun _ => acted) fun _ => hs

end State

/-- Every row keeps the invariant. CONFIGURE can move a threshold in DORMANT alone, where no CANDIDATE or MEMBER
stands (R65, R186). -/
theorem exec_guardedHolds (c : Instr) {s t : State} (run : exec c s = .next t)
    (quiet : s.sync.state = .dormant → ∀ e ∈ s.peers, e.state ≠ .candidate ∧ e.state ≠ .member)
    (hs : s.guardedHolds) : t.guardedHolds := by
  cases c with
  | readStatus | readConfig | readTime | readEntry | readSchedule | readPeer | readLog =>
    cases run; exact State.readCommand_guardedHolds _ _ hs
  | popEvent => cases run; exact State.command_guardedHolds _ (State.popAnswer_guardedHolds hs) hs
  | configure => cases run; exact State.command_guardedHolds _ (State.configureAnswer_guardedHolds _ _ quiet hs) hs
  | setAlertMask => cases run; exact State.command_guardedHolds _ (State.maskAnswer_guardedHolds _ _ hs) hs
  | clear => cases run; exact State.command_guardedHolds _ (State.clearAnswer_guardedHolds _ _ hs) hs
  | join => cases run; exact State.command_guardedHolds _ (State.joinAnswer_guardedHolds hs) hs
  | leaveSecure => cases run; exact State.command_guardedHolds _ (State.leaveSecureAnswer_guardedHolds _ hs) hs
  | leaveFast => cases run; exact State.command_guardedHolds _ (State.leaveFastAnswer_guardedHolds hs) hs
  | restart pins =>
    cases run
    exact State.transaction_guardedHolds (State.guardedHolds_of_fields rfl rfl ⟨rfl, rfl, rfl⟩
      (State.finishStart_guardedHolds s .command pins false)) hs
  | schedule => cases run; exact State.command_guardedHolds _ (State.scheduleAnswer_guardedHolds _ _ hs) hs
  | propose => cases run; exact State.command_guardedHolds _ (State.proposeAnswer_guardedHolds _ hs) hs
  | cancel => cases run; exact State.command_guardedHolds _ (State.cancelAnswer_guardedHolds _ hs) hs
  | release => cases run; exact State.command_guardedHolds _ (State.releaseAnswer_guardedHolds _ hs) hs
  | response | transactionDiscarded =>
    cases run
    exact State.transaction_guardedHolds (State.guardedHolds_of_fields rfl rfl ⟨rfl, rfl, rfl⟩ hs) hs
  | unknownCommand => cases run; exact State.command_guardedHolds _ hs hs
  | powerOn | resetnFall => cases run; exact State.guardedHolds_of_fields rfl rfl ⟨rfl, rfl, rfl⟩ hs
  | startEnd pins csnLow =>
    cases run
    split
    · exact State.finishStart_guardedHolds _ _ _ _
    · exact hs
  | holdAssertion =>
    cases run
    exact iteInduction (fun _ => State.holdAsserted_guardedHolds
      (State.guardedHolds_of_fields rfl rfl ⟨rfl, rfl, rfl⟩ hs)) fun _ => hs
  | holdRelease =>
    cases run
    exact iteInduction (fun _ => State.holdReleased_guardedHolds
      (State.guardedHolds_of_fields rfl rfl ⟨rfl, rfl, rfl⟩ hs)) fun _ => hs
  | capEdge => cases run; exact State.running_guardedHolds (State.captureEdge_guardedHolds _ hs) hs
  | frameEnd | receiveTimeout =>
    cases run; exact State.running_guardedHolds (State.endFrame_guardedHolds _ _ _ hs) hs
  | overdrive =>
    change execOverdrive s = .next t at run
    unfold execOverdrive at run
    split at run
    · cases run; exact State.running_guardedHolds (State.cutByOverdrive_guardedHolds _ hs) hs
    · cases run; exact hs
  | beaconSentWhole =>
    change execBeaconSentWhole s = .next t at run
    unfold execBeaconSentWhole at run
    split at run
    · cases run
      exact State.running_guardedHolds (State.beaconEnded_guardedHolds _
        (State.guardedHolds_of_fields rfl rfl ⟨rfl, rfl, rfl⟩ hs)) hs
    · cases run; exact hs
  | ownSendInstant => cases run; exact State.running_guardedHolds (State.takeOwnSend_guardedHolds hs) hs
  | windowClose => cases run; exact State.running_guardedHolds (State.takeWindowClose_guardedHolds hs) hs
  | epochClose => cases run; exact State.running_guardedHolds (State.takeEpochClose_guardedHolds hs) hs
  | slewPoint => cases run; exact State.running_guardedHolds (State.takeSlewRow_guardedHolds hs) hs
  | triggerFire handle =>
    cases run
    exact State.running_guardedHolds (State.guardedHolds_of_offSchedule (State.fireIfDue_offSchedule s handle) hs) hs
  | sharedDeadline handle =>
    cases run
    exact State.running_guardedHolds
      (State.guardedHolds_of_offSchedule (State.deadlineIfDue_offSchedule s handle) hs) hs
  | listenDeadline => cases run; exact State.running_guardedHolds (State.takeListenDeadline_guardedHolds hs) hs
  | declinedExpiry =>
    cases run
    exact State.running_guardedHolds (State.guardedHolds_of_fields rfl rfl ⟨rfl, rfl, rfl⟩ hs) hs
  | pulseEnd =>
    cases run
    exact State.running_guardedHolds (State.guardedHolds_of_fields rfl rfl ⟨rfl, rfl, rfl⟩ hs) hs
  | startOfFrame =>
    cases run
    exact iteInduction (fun _ => State.guardedHolds_of_fields rfl rfl ⟨rfl, rfl, rfl⟩ hs) fun _ => hs
  | referencePeriod stop =>
    cases run
    exact State.running_guardedHolds (State.runPeriod_guardedHolds 128 stop (State.beginPeriod_guardedHolds hs)) hs

/-- Settles O59: each row keeps the invariant `guardedHolds`, and a step runs one row. -/
theorem stepKeepsJoinedBounds : Obligations.StepKeepsJoinedBounds := by
  intro s t group config joined thresholds leads run
  have hs : s.guardedHolds := s.guardedHolds_iff.2 ⟨config, joined, thresholds, leads⟩
  suffices held : t.guardedHolds from (t.guardedHolds_iff.1 held).2
  unfold step at run
  split at run
  · cases run
    exact hs
  · rename_i c rest _
    obtain ⟨-, -, -, silent, -⟩ := group
    have quiet : s.sync.state = .dormant → ∀ e ∈ s.peers, e.state ≠ .candidate ∧ e.state ≠ .member := by
      intro dormant e he
      obtain ⟨candidate, member, -⟩ := (silent (by simp [State.transmitting, dormant, StationState.transmits])).2 e he
      exact ⟨candidate, member⟩
    exact exec_guardedHolds c run quiet (State.guardedHolds_of_fields rfl rfl ⟨rfl, rfl, rfl⟩ hs)

end Sys2Proof.Machine
end

section
/-!
A state change block by block: the records that one event posts, the PENDING entries that it abandons, and what it
writes (R25, R65, R145, R157).
-/
namespace Sys2Proof.Machine

/-! ## Records posted one after another (R172, R173) -/

/-- The capture unit and the overflow flag: all that a post touches. -/
def State.posted (s : State) : Capture × Bool := (s.capture, s.port.alerts.overflow)

/-- A post, on the capture unit and the overflow flag alone. -/
def postOn (c : Capture × Bool) (r : EventRecord) : Capture × Bool :=
  if c.1.queue.length < 16 then ({ c.1 with queue := c.1.queue ++ [r] }, c.2) else (c.1, true)

@[simp] theorem State.post_posted (s : State) (r : EventRecord) : (s.post r).posted = postOn s.posted r := by
  unfold State.post postOn State.posted
  split <;> rfl

@[simp] theorem State.endProposal_posted (s : State) (h : Nat) : (s.endProposal h).posted = s.posted := by
  unfold State.endProposal
  split <;> rfl

/-- Records posted one after another: a full queue takes no more of them, and sets the overflow flag (R172). -/
theorem foldl_postOn (records : List EventRecord) (c : Capture) (overflow : Bool) (room : c.queue.length ≤ 16) :
    records.foldl postOn (c, overflow)
      = ({ c with queue := (c.queue ++ records).take 16 },
         overflow || decide (16 < c.queue.length + records.length)) := by
  induction records generalizing c overflow with
  | nil => simp [List.take_of_length_le room, room]
  | cons r records ih =>
    rw [List.foldl_cons, postOn]
    split
    · rename_i free
      have free : c.queue.length < 16 := free
      rw [ih _ _ (by simp; omega)]
      simp [Nat.add_comm, Nat.add_left_comm]
    · rename_i full
      have full : ¬ c.queue.length < 16 := full
      have held : c.queue.length = 16 := by omega
      rw [ih _ _ room]
      simp [held]

/-! ## What the agreement logic leaves beside the slots -/

namespace State

theorem sameBeside_refl (s : State) : s.sameBeside s :=
  ⟨rfl, rfl, List.prefix_rfl, rfl, rfl, rfl, rfl⟩

theorem sameBeside_trans {s t u : State} (first : s.sameBeside t) (second : t.sameBeside u) : s.sameBeside u := by
  obtain ⟨cap0, cap1, queue, lines, declined, tag, correction⟩ := first
  obtain ⟨cap0', cap1', queue', lines', declined', tag', correction'⟩ := second
  exact ⟨cap0'.trans cap0, cap1'.trans cap1, queue.trans queue', lines'.trans lines, declined'.trans declined,
    tag'.trans tag, correction'.trans correction⟩

theorem post_sameBeside (s : State) (r : EventRecord) : s.sameBeside (s.post r) := by
  unfold post
  split
  · exact ⟨rfl, rfl, List.prefix_append _ _, rfl, rfl, rfl, rfl⟩
  · exact sameBeside_refl s

theorem endProposal_sameBeside (s : State) (h : Nat) : s.sameBeside (s.endProposal h) := by
  unfold endProposal
  split <;> exact sameBeside_refl s

theorem arm_sameBeside (s : State) (h : Nat) (name : Pair) (e : Entry) : s.sameBeside (s.arm h name e) :=
  sameBeside_trans (endProposal_sameBeside (s.setSlot h _) h) (post_sameBeside _ _)

theorem evaluateSlot_sameBeside (s : State) (h : Nat) : s.sameBeside (s.evaluateSlot h) := by
  unfold evaluateSlot
  split
  · split
    · exact arm_sameBeside _ _ _ _
    · exact sameBeside_refl s
  · exact sameBeside_refl s

theorem evaluateArming_sameBeside (s : State) : s.sameBeside s.evaluateArming :=
  foldl_invariant (fun u h hu => sameBeside_trans hu (evaluateSlot_sameBeside u h)) _ s (sameBeside_refl s)

theorem abandon_sameBeside (s : State) (h : Nat) (name : Pair) (e : Entry) (r : AbandonReason) (m : StationSet) :
    s.sameBeside (s.abandon h name e r m) :=
  sameBeside_trans (endProposal_sameBeside (s.setSlot h none) h) (post_sameBeside _ _)

theorem abandonSlot_sameBeside (s : State) (h : Nat) : s.sameBeside (s.abandonSlot h) := by
  unfold abandonSlot
  split
  · exact abandon_sameBeside _ _ _ _ _ _
  · exact sameBeside_refl s

theorem abandonPending_sameBeside (s : State) : s.sameBeside s.abandonPending :=
  foldl_invariant (fun u h hu => sameBeside_trans hu (abandonSlot_sameBeside u h)) _ s (sameBeside_refl s)

theorem takeOffer_sameBeside (s : State) (p : Nat) (o : Offer) : s.sameBeside (s.takeOffer p o) := by
  unfold takeOffer
  split
  · exact iteInduction (fun _ => sameBeside_refl s) fun _ => sameBeside_refl s
  · exact sameBeside_refl s

theorem beaconNotice_sameBeside (s : State) (p : Nat) (offer : Option Offer) :
    s.sameBeside (s.beaconNotice p offer) := by
  unfold beaconNotice
  refine sameBeside_trans ?_ (evaluateArming_sameBeside _)
  split
  · exact takeOffer_sameBeside _ _ _
  · exact sameBeside_refl s

/-! ## PENDING entries, and abandoning them (R157) -/

/-- The PENDING SHARED entry that a slot holds. -/
theorem pendingEntry_eq_some {s : State} {h : Nat} {name : Pair} {e : Entry} :
    s.pendingEntry h = some (name, e) ↔ s.holdsPending h name e := by
  unfold pendingEntry entry holdsPending holds
  cases slot : s.schedule.slots[h]? with
  | none => simp
  | some x =>
    cases x with
    | none => simp
    | some e₀ => cases kind : e₀.kind <;> cases state : e₀.state <;> simp <;> grind

theorem pendingEntry_eq_none {s : State} {h : Nat} :
    s.pendingEntry h = none ↔ ∀ name e, ¬ s.holdsPending h name e := by
  simp only [Option.eq_none_iff_forall_ne_some, Prod.forall, ne_eq, ← pendingEntry_eq_some]

/-- What a slot holds depends on that slot alone. -/
theorem pendingEntry_congr {s t : State} {h : Nat} (slot : t.schedule.slots[h]? = s.schedule.slots[h]?) :
    t.pendingEntry h = s.pendingEntry h := by
  unfold pendingEntry entry
  rw [slot]

theorem endProposal_ownProposal (s : State) (h k : Nat) :
    (s.endProposal h).schedule.ownProposal = some k ↔ s.schedule.ownProposal = some k ∧ k ≠ h := by
  unfold endProposal
  split <;> grind

/-- The record of an abandonment with reason STATE (R157). -/
def abandonedAs (s : State) (p : Nat × Pair × Entry) : EventRecord :=
  .abandoned p.1 p.2.1 (stampOf s.straps p.2.2.nextFire) .state 0

/-- The slots of a list with their PENDING entries. -/
def pendingsIn (s : State) (handles : List Nat) : List (Nat × Pair × Entry) :=
  handles.filterMap fun h => (s.pendingEntry h).map fun p => (h, p)

theorem abandonedRecords_eq (s : State) :
    s.abandonedRecords = (s.pendingsIn (List.range 16)).map s.abandonedAs := rfl

theorem pendingsIn_congr {s t : State} {handles : List Nat}
    (same : ∀ k ∈ handles, t.pendingEntry k = s.pendingEntry k) : t.pendingsIn handles = s.pendingsIn handles :=
  List.filterMap_congr fun k hk => by rw [same k hk]

/-- Abandoning the entry of a slot touches that slot alone. -/
theorem abandonSlot_slot_of_ne (s : State) {h k : Nat} (other : k ≠ h) :
    (s.abandonSlot h).schedule.slots[k]? = s.schedule.slots[k]? := by
  unfold abandonSlot abandon
  split
  · simp [Ne.symm other]
  · rfl

/-- A slot whose entry is PENDING is freed, and any other stands as it did (R157). -/
theorem abandonSlot_slot (s : State) (h : Nat) :
    (s.abandonSlot h).schedule.slots[h]?
      = if (s.pendingEntry h).isSome then some none else s.schedule.slots[h]? := by
  unfold abandonSlot abandon
  split
  · rename_i name e pending
    obtain ⟨held, -, -⟩ := pendingEntry_eq_some.1 pending
    have inside : h < s.schedule.slots.length := (List.getElem?_eq_some_iff.1 held).1
    simp [pending, inside]
  · rename_i free
    simp [free]

theorem abandonSlot_ownProposal (s : State) (h k : Nat) :
    (s.abandonSlot h).schedule.ownProposal = some k
      ↔ s.schedule.ownProposal = some k ∧ ¬ (k = h ∧ (s.pendingEntry h).isSome) := by
  unfold abandonSlot abandon
  split
  · rename_i pending
    simp [pending, endProposal_ownProposal]
  · rename_i free
    simp [free]

theorem abandonSlot_posted (s : State) (h : Nat) :
    (s.abandonSlot h).posted = ((s.pendingsIn [h]).map s.abandonedAs).foldl postOn s.posted := by
  unfold abandonSlot abandon pendingsIn
  split
  · rename_i name e pending
    have setSlot_posted : (s.setSlot h none).posted = s.posted := rfl
    simp [pending, setSlot_posted, abandonedAs]
  · rename_i free
    simp [free]

/-- Abandoning the PENDING entries of a list of slots: they are freed and the others stand, the own proposal ends if it
is one of them, and their records are posted in order (R145, R157). -/
theorem foldl_abandonSlot (handles : List Nat) (distinct : handles.Nodup) (s : State) :
    (∀ k, (handles.foldl abandonSlot s).schedule.slots[k]?
      = if k ∈ handles ∧ (s.pendingEntry k).isSome then some none else s.schedule.slots[k]?) ∧
    (∀ k, (handles.foldl abandonSlot s).schedule.ownProposal = some k
      ↔ s.schedule.ownProposal = some k ∧ ¬ (k ∈ handles ∧ (s.pendingEntry k).isSome)) ∧
    (handles.foldl abandonSlot s).posted = ((s.pendingsIn handles).map s.abandonedAs).foldl postOn s.posted := by
  induction handles generalizing s with
  | nil => simp [pendingsIn]
  | cons h handles ih =>
    obtain ⟨fresh, distinct⟩ := List.nodup_cons.1 distinct
    obtain ⟨slots, proposal, posted⟩ := ih distinct (s.abandonSlot h)
    have others : ∀ k, k ≠ h → (s.abandonSlot h).pendingEntry k = s.pendingEntry k :=
      fun k other => pendingEntry_congr (abandonSlot_slot_of_ne s other)
    have ne_of_mem : ∀ k ∈ handles, k ≠ h := fun k hk same => fresh (same ▸ hk)
    refine ⟨fun k => ?_, fun k => ?_, ?_⟩
    · rw [List.foldl_cons, slots]
      by_cases same : k = h
      · subst same
        simp [fresh, abandonSlot_slot]
      · simp [same, others k same, abandonSlot_slot_of_ne s same]
    · rw [List.foldl_cons, proposal, abandonSlot_ownProposal]
      by_cases same : k = h
      · subst same
        simp [fresh]
      · simp [same, others k same]
    · have straps : (s.abandonSlot h).abandonedAs = s.abandonedAs := by
        funext p
        simp only [abandonedAs, State.straps, offSchedule_straps (abandonSlot_offSchedule s h)]
      rw [List.foldl_cons, posted, straps, pendingsIn_congr fun k hk => others k (ne_of_mem k hk), abandonSlot_posted,
        ← List.foldl_append, ← List.map_append]
      congr 2
      unfold pendingsIn
      rw [← List.filterMap_append, List.singleton_append]

/-- What leaving TRACK and HOLDOVER does to the slots, the own proposal, the queue and the overflow flag (R157). -/
theorem abandonPending_effect (s : State) :
    (∀ k, k < 16 → s.abandonPending.schedule.slots[k]?
      = if (s.pendingEntry k).isSome then some none else s.schedule.slots[k]?) ∧
    (∀ k, k < 16 → (s.abandonPending.schedule.ownProposal = some k
      ↔ s.schedule.ownProposal = some k ∧ (s.pendingEntry k).isSome = false)) ∧
    s.abandonPending.posted = s.abandonedRecords.foldl postOn s.posted := by
  obtain ⟨slots, proposal, posted⟩ := foldl_abandonSlot (List.range 16) List.nodup_range s
  rw [← abandonPending] at slots proposal posted
  refine ⟨fun k inRange => ?_, fun k inRange => ?_, posted⟩
  · rw [slots k]; simp [inRange]
  · rw [proposal k]; simp [inRange]

/-! ## What a state change leaves (R91) -/

/-- The state from which a change to `new` is made: every PENDING entry abandoned where it leaves TRACK and HOLDOVER
(R91 point 2, R157). -/
def leftFor (s : State) (new : StationState) : State :=
  if s.sync.state.agrees && !new.agrees then s.abandonPending else s

theorem leftFor_offSchedule (s : State) (new : StationState) : (s.leftFor new).offSchedule = s.offSchedule :=
  iteInduction (motive := fun u : State => u.offSchedule = s.offSchedule) (fun _ => abandonPending_offSchedule s)
    fun _ => rfl

theorem leftFor_sameBeside (s : State) (new : StationState) : s.sameBeside (s.leftFor new) :=
  iteInduction (motive := fun u : State => s.sameBeside u) (fun _ => abandonPending_sameBeside s)
    fun _ => sameBeside_refl s

theorem leftFor_stays {s : State} {new : StationState} (stays : s.sync.state.agrees = false ∨ new.agrees = true) :
    s.leftFor new = s :=
  if_neg (by rcases stays with h | h <;> simp [h])

theorem leftFor_leaves {s : State} {new : StationState} (leaves : s.sync.state.agrees = true)
    (into : new.agrees = false) : s.leftFor new = s.abandonPending :=
  if_pos (by simp [leaves, into])

/-- A clearing of the table raises MEMBERSHIP for a CANDIDATE or MEMBER, and touches nothing else beside it (R65). -/
theorem clearPeers_eq (s : State) : s.clearPeers =
    { s with
      peers := s.peers.map Peer.cleared
      port.alerts.membership := s.port.alerts.membership ||
        s.peers.any (fun e => e.state == .candidate || e.state == .member) } := by
  unfold clearPeers
  cases s.peers.any (fun e => e.state == .candidate || e.state == .member) <;> simp [raiseMembership]

/-- A state change, block by block (R25, R26, R65, R91). -/
theorem enter_eq {s left : State} {new : StationState} (cause : Cause) (before : left = s.leftFor new) :
    s.enter new cause =
    { left with
      sync := s.sync.enter new cause
      link := s.link.enter new
      peers := if new.quiet then s.peers.map Peer.cleared else s.peers
      port.alerts.state := true
      port.alerts.membership := s.port.alerts.membership ||
        (new.quiet && s.peers.any (fun e => e.state == .candidate || e.state == .member)) } := by
  subst before
  have off := leftFor_offSchedule s new
  have membership : (s.leftFor new).port.alerts.membership = s.port.alerts.membership :=
    congrArg (·.port.alerts.membership) off
  have unfolded : s.enter new cause =
      if new.quiet then ({ s.leftFor new with
        sync := (s.leftFor new).sync.enter new cause, link := (s.leftFor new).link.enter new } :
        State).raiseState.clearPeers
      else ({ s.leftFor new with
        sync := (s.leftFor new).sync.enter new cause, link := (s.leftFor new).link.enter new } :
        State).raiseState := rfl
  rw [unfolded, offSchedule_sync off, offSchedule_link off]
  cases new.quiet
  · simp [raiseState, ← membership, ← offSchedule_peers off]
  · simp [clearPeers_eq, ← membership, ← offSchedule_peers off]

/-- A state change that abandons nothing, block by block. -/
theorem enter_eq_of_stays {s : State} {new : StationState} (cause : Cause)
    (stays : s.sync.state.agrees = false ∨ new.agrees = true) : s.enter new cause =
    { s with
      sync := s.sync.enter new cause
      link := s.link.enter new
      peers := if new.quiet then s.peers.map Peer.cleared else s.peers
      port.alerts.state := true
      port.alerts.membership := s.port.alerts.membership ||
        (new.quiet && s.peers.any (fun e => e.state == .candidate || e.state == .member)) } :=
  enter_eq cause (leftFor_stays stays).symm

theorem changeState_no_rejoin {s : State} {new : StationState} (cause : Cause)
    (stays : new = .dormant → s.sync.holdLeft = true → s.port.holdLevel = true) :
    s.changeState new cause = s.enter new cause := by
  have marker : (s.enter new cause).sync.holdLeft = s.sync.holdLeft := by rw [enter_sync]; rfl
  have hold : (s.enter new cause).port.holdLevel = s.port.holdLevel :=
    portStill_holdLevel (still_portStill (enter_still s new cause))
  refine if_neg fun rejoins => ?_
  obtain ⟨dormant, left, released⟩ := rejoins
  rw [marker] at left
  rw [hold, stays dormant left] at released
  cases released

theorem cleared_eq_clearedEntry : Peer.cleared = clearedEntry := by
  funext e
  cases state : e.state <;> simp [Peer.cleared, clearedEntry, state, Peer.fresh]

theorem quiet_iff (new : StationState) :
    new.quiet = true ↔ new = .dormant ∨ new = .listen ∨ new = .halted := by
  cases new <;> simp [StationState.quiet]

theorem mem_abandonedRecords (s : State) (r : EventRecord) : r ∈ s.abandonedRecords ↔
    ∃ h name e, h < 16 ∧ s.holdsPending h name e ∧ r = .abandoned h name (stampOf s.straps e.nextFire) .state 0 := by
  simp only [abandonedRecords_eq, pendingsIn, List.mem_map, List.mem_filterMap, List.mem_range, Option.map_eq_some_iff,
    ← pendingEntry_eq_some, abandonedAs]
  constructor
  · rintro ⟨-, ⟨h, inRange, ⟨name, e⟩, pending, rfl⟩, rfl⟩
    exact ⟨h, name, e, inRange, pending, rfl⟩
  · rintro ⟨h, name, e, inRange, pending, rfl⟩
    exact ⟨_, ⟨h, inRange, (name, e), pending, rfl⟩, rfl⟩

/-- The PENDING entries stand in ascending order of handle. -/
theorem pendingsIn_pairwise (s : State) (n : Nat) :
    (s.pendingsIn (List.range n)).Pairwise (fun a b => a.1 < b.1) := by
  refine List.Pairwise.filterMap _ (fun a b ordered x hx y hy => ?_) List.pairwise_lt_range
  obtain ⟨p, -, rfl⟩ := Option.map_eq_some_iff.1 hx
  obtain ⟨q, -, rfl⟩ := Option.map_eq_some_iff.1 hy
  exact ordered

end State

/-- Settles O16: a state change is `enter`, block by block, and the abandonments are a fold over the slots. -/
theorem stateChangeActsOnEveryBlock : Obligations.StateChangeActsOnEveryBlock := by
  rintro s new cause stays t rfl
  have off := State.leftFor_offSchedule s new
  obtain ⟨cap0, cap1, queue, lines, declined, tag, correction⟩ := State.leftFor_sameBeside s new
  obtain ⟨slots, proposal, posted⟩ := State.abandonPending_effect s
  obtain ⟨left, before⟩ : ∃ left, left = s.leftFor new := ⟨_, rfl⟩
  rw [State.changeState_no_rejoin cause stays, State.enter_eq cause before]
  rw [← before] at off cap0 cap1 queue lines declined tag correction
  refine ⟨?_, (State.offSchedule_timebase off :), (State.offSchedule_correction off :),
    (State.offSchedule_pending off :), ?_, rfl,
    correction, ?_, ?_, rfl, lines, declined, tag, cap0, cap1, queue, ?_, ?_, ?_⟩
  · simp only [Sync.enter, State.quiet_iff]
  · rw [State.offSchedule_port off]
  · cases new <;> simp [Link.enter] <;> cases s.link.beacon <;> rfl
  · simp only [State.quiet_iff, State.cleared_eq_clearedEntry]
  · intro agrees
    simp [before, State.leftFor_stays agrees]
  · intro leaves into room
    rw [State.posted, State.posted, foldl_postOn _ _ _ room] at posted
    obtain ⟨capture, overflow⟩ := Prod.mk.inj posted
    refine ⟨s.abandonedRecords, ?_, ?_, State.mem_abandonedRecords s, ?_⟩
    · simp [before, State.leftFor_leaves leaves into, capture]
    · simp [before, State.leftFor_leaves leaves into, overflow]
    · rw [State.abandonedRecords_eq, List.map_map, List.pairwise_map]
      exact State.pendingsIn_pairwise s 16
  · intro h inRange
    dsimp only
    refine ⟨fun leaves into name e pending => ?_, fun stands => ?_⟩
    · have isPending : (s.pendingEntry h).isSome = true := by rw [State.pendingEntry_eq_some.2 pending]; rfl
      rw [before.trans (State.leftFor_leaves leaves into)]
      refine ⟨(slots h inRange).trans (if_pos isPending), fun own => ?_⟩
      exact absurd isPending (by simpa using ((proposal h inRange).1 own).2)
    · by_cases agrees : s.sync.state.agrees = false ∨ new.agrees = true
      · rw [before.trans (State.leftFor_stays agrees)]
        exact ⟨rfl, fun own => own⟩
      · obtain ⟨leaves, into⟩ := not_or.1 agrees
        have free : s.pendingEntry h = none :=
          State.pendingEntry_eq_none.2 ((stands.resolve_left leaves).resolve_left into)
        rw [before.trans (State.leftFor_leaves (by simpa using leaves) (by simpa using into))]
        exact ⟨(slots h inRange).trans (by simp [free]), fun own => (proposal h inRange).2 ⟨own, by simp [free]⟩⟩

end Sys2Proof.Machine
end

section
/-!
Starts and ends: the geometry that the strap check buys, the begin and the end of a start, and the end of the own
beacon (R1, R92, R109).
-/
namespace Sys2Proof.Machine

/-! ## Geometry of valid straps (R1, R2, R92) -/

/-- What the strap check buys: W windows of L = 8G fill the epoch, G is at least 4000 ns, and the own number names a
window (R1, R92). -/
theorem strapsValid_geometry {straps : Straps} (valid : strapsValid straps = true) :
    (∃ w, windowCount straps = some w) ∧ epochLength straps = windows straps * windowLength straps ∧
      windowLength straps = 8 * guardTime straps ∧ 4000 ≤ guardTime straps ∧
      8 ≤ windows straps ∧ windows straps ≤ 32 ∧ ownNumber straps < windows straps := by
  obtain ⟨pair, number⟩ : validPairs.contains (epochLength straps, windows straps) = true ∧
      ownNumber straps < windows straps := by simpa [strapsValid] using valid
  have lengths : ∀ pair ∈ validPairs,
      pair.1 = pair.2 * (pair.1 / pair.2) ∧ pair.1 / pair.2 = 8 * (pair.1 / pair.2 / 8) ∧
      4000 ≤ pair.1 / pair.2 / 8 ∧ 8 ≤ pair.2 ∧ pair.2 ≤ 32 := by decide
  obtain ⟨epoch, window, guard, low, high⟩ := lengths _ (by simpa using pair)
  refine ⟨?_, epoch, window, guard, low, high, number⟩
  cases count : windowCount straps with
  | some w => exact ⟨w, rfl⟩
  | none => simp [windows, count] at low

/-! ## Starts, start-of-frames and the ends of beacons -/

/-- Settles O25. -/
theorem startsBegin : Obligations.StartsBegin := by
  intro s begun begun_eq
  have started : ∀ cause, s.beginStart cause = begun cause := fun cause => (begun_eq cause).symm
  refine ⟨?_, fun asleep => ?_, fun cause starting => ?_⟩
  · rw [← started]; rfl
  · rw [← started]; unfold exec execResetnFall; rw [asleep]
  · rw [← started]; unfold exec execResetnFall; rw [starting]

/-- Settles O29: the guard of the row is the conjunction of what it waits for. -/
theorem startOfFrameRecordsTheMarks : Obligations.StartOfFrameRecordsTheMarks := by
  intro s running
  refine ⟨fun reception beacon idle => ?_, fun busy => ?_⟩
  · simp [exec, execStartOfFrame, State.running, running, reception, beacon, idle]
  · have barred : ¬ (s.running && s.link.reception.isNone && s.link.beacon.isNone && s.link.idleIn == 0) = true := by
      simp only [Bool.and_eq_true, Option.isNone_iff_eq_none, beq_iff_eq]
      tauto
    exact congrArg Host.Outcome.next (if_neg barred)

/-- A row that acts only while no start is in progress acts. -/
theorem State.running_of_not_starting {s : State} (h : s.port.starting = none) : s.running = true := by
  simp [State.running, h]

theorem exec_overdrive {s : State} {b : OwnBeacon} (running : s.port.starting = none)
    (beacon : s.link.beacon = some b) : exec .overdrive s = .next (s.cutByOverdrive b) := by
  show execOverdrive s = _
  simp [execOverdrive, beacon, State.running_of_not_starting running]

theorem exec_beaconSentWhole {s : State} {b : OwnBeacon} (running : s.port.starting = none)
    (beacon : s.link.beacon = some b) : exec .beaconSentWhole s = .next (s.sentWhole b) := by
  show execBeaconSentWhole s = _
  simp [execBeaconSentWhole, beacon, State.running_of_not_starting running]

/-- Settles O37. -/
theorem beaconEnds : Obligations.BeaconEnds := by
  intro s running
  refine ⟨fun beacon => ?_, fun b beacon => ⟨?_, ?_⟩⟩
  · constructor
    · show execOverdrive s = _
      simp [execOverdrive, beacon]
    · show execBeaconSentWhole s = _
      simp [execBeaconSentWhole, beacon]
  · rintro u rfl
    rw [exec_overdrive running beacon]
    refine ⟨fun run transmits => ?_, fun run leaving second => ?_, fun run other => ?_⟩
    · have third : min 3 (s.link.overdriveRun + 1) = 3 := by omega
      exact congrArg Host.Outcome.next (if_pos ⟨third, transmits⟩)
    all_goals
      have early : min 3 (s.link.overdriveRun + 1) ≠ 3 := by omega
      refine congrArg Host.Outcome.next ((if_neg fun cut => early cut.1).trans ?_)
    · exact if_pos ⟨leaving, second⟩
    · exact if_neg fun ends => other.elim (fun h => h ends.1) (fun h => h ends.2)
  · rintro u rfl
    rw [exec_beaconSentWhole running beacon]
    refine ⟨fun leaving second => ?_, fun other => ?_⟩
    · exact congrArg Host.Outcome.next (if_pos ⟨leaving, second⟩)
    · exact congrArg Host.Outcome.next (if_neg fun ends => other.elim (fun h => h ends.1) (fun h => h ends.2))

/-! ## The end of a start (R195) -/

namespace State

theorem enter_sdo {s : State} (new : StationState) (cause : Cause) (stays : s.sync.state.agrees = false)
    (sdo : List Byte) : ({ s with port.sdo := sdo } : State).enter new cause
      = { s.enter new cause with port.sdo := sdo } := by
  rw [enter_eq_of_stays (s := s) cause (.inl stays),
    enter_eq_of_stays (s := { s with port.sdo := sdo }) cause (.inl stays)]

/-- An accepted JOIN, block by block, from a state that no PENDING entry outlasts (R95). -/
theorem acceptJoin_eq {s : State} (stays : s.sync.state.agrees = false) : s.acceptJoin =
    { s with
      sync := { s.sync with
        state := .listen, lastCause := .joined, lockRun := 0, unlockRun := 0, relockRun := 0, holdoverCount := 0,
        leavingCount := 0, listenDeadline := some s.deadlineFromNow,
        foreign := 0, alignSources := 0, holdLeft := false }
      link := { s.link with overdriveRun := 0, completeRun := 0 }
      peers := s.peers.map Peer.cleared
      port.frozen := true
      port.alerts.state := true
      port.alerts.membership := s.port.alerts.membership ||
        s.peers.any (fun e => e.state == .candidate || e.state == .member) } := by
  unfold acceptJoin
  rw [enter_eq_of_stays (s := { s with port.frozen := true, sync.holdLeft := false, sync.alignSources := 0 }) .joined
    (.inl stays)]
  rfl

/-- The strap check of a start does not look at SDO, and writes nothing there (R92, R93). -/
theorem strapCheck_sdo {s : State} (dormant : s.sync.state = .dormant) (sdo : List Byte) :
    ({ s with port.sdo := sdo } : State).strapCheck = { s.strapCheck with port.sdo := sdo } := by
  have stays : s.sync.state.agrees = false := by rw [dormant]; rfl
  have halted : ({ s with port.sdo := sdo } : State).changeState .halted .strap
      = { s.changeState .halted .strap with port.sdo := sdo } := by
    rw [changeState_plain _ _ (by decide), changeState_plain _ _ (by decide)]
    exact enter_sdo .halted .strap stays sdo
  have joined : ({ s with port.sdo := sdo } : State).joinUnasked = { s.joinUnasked with port.sdo := sdo } := by
    have refusal : ({ s with port.sdo := sdo } : State).joinRefusal = s.joinRefusal := rfl
    unfold joinUnasked
    rw [refusal]
    split
    · rw [acceptJoin_eq stays, acceptJoin_eq (s := { s with port.sdo := sdo }) stays]
      rfl
    · rfl
  unfold strapCheck
  split_ifs with invalid auto
  · exact halted
  · exact joined
  · rfl

end State

/-- The defaults pass the cross-checks of JOIN wherever G is at least 4000 ns (R94, R185). -/
theorem ConfigStore.defaults_crossChecks {g : Nat} (h : 4000 ≤ g) : ConfigStore.defaults.crossChecks g = true := by
  refine decide_eq_true ?_
  simp only [ConfigStore.defaults]
  omega

/-- A table that a start has just formed stands cleared: nothing in it would go at a state change (R65, R66, R67). -/
theorem peersAfterStart_quiet (cause : StartCause) (straps : Straps) (old : List Peer) :
    ∀ e ∈ peersAfterStart cause straps old, e.cleared = e := by
  intro e he
  obtain ⟨j, -, rfl⟩ := List.mem_map.1 he
  split
  · rfl
  · split
    · rfl
    · split
      · rename_i e₀ _
        cases state : e₀.state <;> simp [Peer.afterStart, Peer.cleared, state, Peer.fresh]
      · rfl

/-- Settles O26: the end of a start is its start values and the strap check, whatever SDO holds. -/
theorem startsEnd : Obligations.StartsEnd := by
  intro s c pins csnLow cause ends u hu
  have checked : exec c s = .next u.strapCheck := by
    obtain ⟨rfl, starting⟩ | ⟨rfl, takes, rfl, rfl⟩ := ends
    · have values : u = s.startValues cause pins csnLow := hu
      show execStartEnd pins csnLow s = _
      rw [values]
      simp only [execStartEnd, starting]
      rfl
    · have values : u = { s.startValues .command pins false with port.sdo := [fillByte] } := hu
      obtain ⟨running, high⟩ : s.port.starting = none ∧ s.port.awaitCsHigh = false := by simpa [State.takes] using takes
      show execRestart pins s = _
      rw [values, State.strapCheck_sdo rfl]
      simp [execRestart, State.transaction, State.running, running, high, paramBytes, State.finishStart]
  have straps : u.straps = pins.straps := by rw [hu]
  have dormant : u.sync.state = .dormant := by rw [hu]
  rw [checked]
  unfold State.strapCheck
  rw [straps]
  refine ⟨fun valid auto => ?_, fun invalid => ?_, fun valid auto => ?_⟩
  · simp [valid, auto]
  · simp [invalid]
  · obtain ⟨-, -, -, guard, -⟩ := strapsValid_geometry valid
    have accepted : u.joinRefusal = none := by
      have checks : u.port.config.crossChecks (guardTime u.straps) = true := by
        rw [straps, hu]
        exact ConfigStore.defaults_crossChecks guard
      have reaction : u.port.config.holdReaction = .none := by rw [hu]; rfl
      simp [State.joinRefusal, dormant, reaction, checks]
    have joined : u.joinUnasked = u.acceptJoin := by simp [State.joinUnasked, accepted]
    have cleared : u.peers.map Peer.cleared = u.peers := by
      rw [hu]
      exact (List.map_congr_left (peersAfterStart_quiet cause pins.straps s.peers)).trans (List.map_id' _)
    refine ⟨u.acceptJoin, by simp [valid, auto, joined], ?_⟩
    rw [State.acceptJoin_eq (by rw [dormant]; rfl)]
    refine ⟨rfl, rfl, ?_, rfl, rfl, rfl, rfl, rfl, rfl, cleared, ?_⟩
    · simp only [State.deadlineFromNow, State.own, straps]
      rw [hu]
      simp
    · rw [hu]

end Sys2Proof.Machine
end

section
/-!
The window instants and the sets of stations: where an instant stands, the content of the own beacon, and the close
of a window that brought nothing (R2, R11, R36).
-/
namespace Sys2Proof.Machine

/-! ## Where the window instants stand (R2) -/

/-- Where r ns into window j of epoch n stands, W windows of l ns filling an epoch. -/
theorem window_position {w l n j r : Nat} (inEpoch : j < w) (inWindow : r < l) :
    (n * (w * l) + j * l + r) % (w * l) = j * l + r ∧ (j * l + r) / l = j ∧ (j * l + r) % l = r := by
  have before : j * l + r < w * l := by
    calc j * l + r < j * l + l := by omega
      _ = (j + 1) * l := by ring
      _ ≤ w * l := Nat.mul_le_mul_right l inEpoch
  have positive : 0 < l := by omega
  refine ⟨?_, ?_, ?_⟩
  · rw [Nat.add_assoc, Nat.mul_comm n, Nat.mul_add_mod, Nat.mod_eq_of_lt before]
  · rw [Nat.mul_comm, Nat.mul_add_div positive, Nat.div_eq_of_lt inWindow, Nat.add_zero]
  · rw [Nat.mul_comm, Nat.mul_add_mod, Nat.mod_eq_of_lt inWindow]

/-- The instant that stands r ns into window j: a send at G, a close at 7G, and no other (R2). -/
theorem windowInstantAt_inWindow {straps : Straps} (valid : strapsValid straps = true) {n j r : Nat}
    (inEpoch : j < windows straps) (positive : 0 < r) (inWindow : r < windowLength straps) :
    windowInstantAt straps (n * epochLength straps + j * windowLength straps + r)
      = if r = guardTime straps then some (.send j)
        else if r = 7 * guardTime straps then some (.windowClose j) else none := by
  obtain ⟨⟨w, count⟩, epoch, -⟩ := strapsValid_geometry valid
  obtain ⟨position, window, offset⟩ := window_position (n := n) inEpoch inWindow
  rw [← epoch] at position
  have inside : j * windowLength straps + r ≠ 0 := by omega
  simp only [windowInstantAt, position, window, offset, inside, if_false, count]

theorem windowInstantAt_send {straps : Straps} (valid : strapsValid straps = true) {n j : Nat}
    (inEpoch : j < windows straps) :
    windowInstantAt straps (n * epochLength straps + j * windowLength straps + guardTime straps) = some (.send j) := by
  obtain ⟨-, -, window, guard, -⟩ := strapsValid_geometry valid
  rw [windowInstantAt_inWindow valid inEpoch (by omega) (by omega), if_pos rfl]

theorem windowInstantAt_close {straps : Straps} (valid : strapsValid straps = true) {n j : Nat}
    (inEpoch : j < windows straps) :
    windowInstantAt straps (n * epochLength straps + j * windowLength straps + 7 * guardTime straps)
      = some (.windowClose j) := by
  obtain ⟨-, -, window, guard, -⟩ := strapsValid_geometry valid
  rw [windowInstantAt_inWindow valid inEpoch (by omega) (by omega), if_neg (by omega), if_pos rfl]

theorem epochLength_pos (straps : Straps) : 0 < epochLength straps := by
  unfold epochLength
  positivity

theorem windowInstantAt_epochClose (straps : Straps) (n : Nat) :
    windowInstantAt straps ((n + 1) * epochLength straps) = some .epochClose := by
  have positive := epochLength_pos straps
  have nonzero : (n + 1) * epochLength straps ≠ 0 := by positivity
  simp [windowInstantAt, nonzero]

/-- For valid straps, the window whose acceptance interval holds a mark is the one whose bounds it lies within (R2). -/
theorem intervalHolding_iff {straps : Straps} (valid : strapsValid straps = true) {n j : Nat} {mark : Int} :
    intervalHolding straps n mark = some j ↔ j < windows straps ∧
      ((n * epochLength straps + j * windowLength straps : Nat) : Int) ≤ mark ∧
      mark ≤ ((n * epochLength straps + j * windowLength straps + 2 * guardTime straps : Nat) : Int) := by
  obtain ⟨-, epoch, window, guard, -⟩ := strapsValid_geometry valid
  constructor
  · intro h
    refine ⟨?_, intervalHolding_bounds h⟩
    unfold intervalHolding at h
    simp only [] at h
    split_ifs at h with inEpoch
    obtain rfl := Option.some.inj h
    rw [Nat.div_lt_iff_lt_mul (by omega), ← epoch]
    omega
  · rintro ⟨inEpoch, low, high⟩
    obtain ⟨r, mark_eq, r_le⟩ : ∃ r : Nat,
        mark = ((n * epochLength straps + (j * windowLength straps + r) : Nat) : Int) ∧
        r ≤ 2 * guardTime straps :=
      ⟨(mark - (n * epochLength straps + j * windowLength straps : Nat)).toNat, by omega, by omega⟩
    obtain ⟨position, div, mod⟩ := window_position (n := 0) (r := r) inEpoch (by omega : r < windowLength straps)
    have before : j * windowLength straps + r < epochLength straps := by
      rw [epoch]
      simp only [Nat.zero_mul, Nat.zero_add] at position
      exact position ▸ Nat.mod_lt _ (by have : 0 < windows straps := by omega
                                        have : 0 < windowLength straps := by omega
                                        positivity)
    have offset : mark - (n * epochLength straps : Nat) = ((j * windowLength straps + r : Nat) : Int) := by omega
    have held : 0 ≤ mark - (n * epochLength straps : Nat) ∧ mark - (n * epochLength straps : Nat) < epochLength straps ∧
        0 < windows straps := ⟨by omega, by omega, by omega⟩
    unfold intervalHolding
    simp only []
    rw [if_pos held, offset, Int.toNat_natCast, div, mod, if_pos r_le]

/-- The mark lies in the acceptance interval of window j of the window epoch (R2, R15). -/
theorem State.markInInterval_iff {s : State} (valid : strapsValid s.straps = true) {j : Nat} {mark : Int} :
    s.markInInterval j mark ↔ intervalHolding s.straps s.windowEpoch mark = some j :=
  (intervalHolding_iff valid).symm

/-! ## Sets of stations (R201) -/

theorem inSet_addTo (set : StationSet) {j k : Nat} (inRange : j < 32) :
    inSet (addTo set k) j = (inSet set j || decide (j = k)) := by
  have bit : (1#32 <<< k).getLsbD j = decide (j = k) := by
    rw [BitVec.getLsbD_shiftLeft, BitVec.getLsbD_one]
    by_cases same : j = k
    · simp [same, same ▸ inRange]
    · simp [same]
      omega
  rw [inSet, addTo, BitVec.getLsbD_or, bit, inSet]

theorem inSet_stationsWhere (p : Nat → Bool) {j : Nat} (inRange : j < 32) : inSet (stationsWhere p) j = p j := by
  have fold : ∀ (stations : List Nat) (set : StationSet),
      inSet (stations.foldl (fun set j => if p j then addTo set j else set) set) j
        = (inSet set j || (decide (j ∈ stations) && p j)) := by
    intro stations
    induction stations with
    | nil => simp
    | cons k stations ih =>
      intro set
      rw [List.foldl_cons, ih]
      by_cases same : j = k
      · subst same
        cases chosen : p j <;> simp [inSet_addTo _ inRange]
      · split <;> simp [inSet_addTo _ inRange, same]
  rw [stationsWhere, fold]
  simp [inSet, inRange]

/-! ## Members (R63) -/

namespace State

theorem isMember_iff (s : State) (m : Nat) : s.isMember m = true ↔ s.memberAt m := by
  unfold isMember peer memberAt
  cases s.peers[m]? <;> simp

theorem inSet_memberView (s : State) {j : Nat} (inRange : j < 32) : inSet s.memberView j = true ↔ s.memberAt j := by
  rw [memberView, inSet_stationsWhere _ inRange, isMember_iff]

theorem memberCount_eq_zero (s : State) : s.memberCount = 0 ↔ ∀ m, ¬ s.memberAt m := by
  simp only [memberCount, List.countP_eq_zero, beq_iff_eq, memberAt, not_exists, not_and]
  exact ⟨fun alone m e he => alone e (List.mem_of_getElem? he), fun alone e he =>
    let ⟨m, hm⟩ := List.getElem?_of_mem he
    alone m e hm⟩

/-- Where the entry of p is replaced by one that is not MEMBER, the members are the others. -/
theorem memberAt_set_iff {s t : State} {p : Nat} {e : Peer} (peers : t.peers = s.peers.set p e)
    (state : e.state ≠ .member) (m : Nat) : t.memberAt m ↔ m ≠ p ∧ s.memberAt m := by
  unfold memberAt
  rw [peers, List.getElem?_set]
  by_cases same : p = m
  · subst same
    split_ifs <;> simp_all
  · simp [same, Ne.symm same]

/-- No isolation outside TRACK, at the change of an entry that was no MEMBER, or while a MEMBER is left (R103). -/
theorem isolationCheck_kept {s : State} {old : PeerState}
    (kept : s.sync.state ≠ .track ∨ old ≠ .member ∨ ∃ m, s.memberAt m) : s.isolationCheck old = s := by
  refine if_neg fun isolated => ?_
  obtain ⟨track, member, lost⟩ := isolated
  obtain h | h | ⟨m, h⟩ := kept
  · exact h track
  · exact h member
  · exact (memberCount_eq_zero s).1 lost m h

/-- In TRACK, the last MEMBER lost is isolation (R103). -/
theorem isolationCheck_lost {s : State} {old : PeerState} (track : s.sync.state = .track) (member : old = .member)
    (lost : ∀ m, ¬ s.memberAt m) : s.isolationCheck old = s.changeState .holdover .isolated :=
  if_pos ⟨track, member, (memberCount_eq_zero s).2 lost⟩

/-! ## The own beacon (R11, R13, R21) -/

theorem untakenInstant_eq {s : State} {i : WindowInstant} (untaken : s.link.seqMark < s.now)
    (stands : windowInstantAt s.straps s.now = some i) : s.untakenInstant = some i := by
  rw [untakenInstant, if_pos untaken, stands]

theorem atSendInstant.untaken {s : State} {j : Nat} (valid : strapsValid s.straps = true) (h : s.atSendInstant j) :
    s.untakenInstant = some (.send j) := by
  obtain ⟨n, now, inEpoch, untaken⟩ := h
  exact untakenInstant_eq untaken (now ▸ windowInstantAt_send valid inEpoch)

theorem atWindowClose.untaken {s : State} {j : Nat} (valid : strapsValid s.straps = true) (h : s.atWindowClose j) :
    s.untakenInstant = some (.windowClose j) := by
  obtain ⟨n, now, inEpoch, untaken⟩ := h
  exact untakenInstant_eq untaken (now ▸ windowInstantAt_close valid inEpoch)

theorem atEpochClose.untaken {s : State} (h : s.atEpochClose) : s.untakenInstant = some .epochClose := by
  obtain ⟨n, now, untaken⟩ := h
  exact untakenInstant_eq untaken (now ▸ windowInstantAt_epochClose s.straps n)

theorem mem_handled (s : State) (h : Nat) (e : Entry) : (h, e) ∈ s.handled ↔ h < 16 ∧ s.holds h e := by
  unfold handled entry holds
  simp only [List.mem_filterMap, List.mem_range, Option.map_eq_some_iff, Prod.mk.injEq]
  constructor
  · rintro ⟨k, inRange, e', slot, rfl, rfl⟩
    refine ⟨inRange, ?_⟩
    cases held : s.schedule.slots[k]? <;> simp_all
  · rintro ⟨inRange, slot⟩
    exact ⟨h, inRange, e, by simp [slot], rfl, rfl⟩

end State

/-- The model's insertion sort is the library's. -/
theorem sortBy_eq_insertionSort {α : Type} (le : α → α → Bool) (l : List α) :
    sortBy le l = l.insertionSort (fun a b => le a b = true) := by
  have insert_eq : ∀ (x : α) (l : List α), insertBy le x l = l.orderedInsert (fun a b => le a b = true) x := by
    intro x l
    induction l with
    | nil => rfl
    | cons y rest ih => rw [insertBy, List.orderedInsert_cons, ih]
  induction l with
  | nil => rfl
  | cons x rest ih => rw [sortBy, insert_eq, ih, List.insertionSort_cons]

theorem heldBefore_iff (a b : Nat × Pair) : heldBefore a b = true ↔ a.1 < b.1 ∨ (a.1 = b.1 ∧
    (a.2.proposer < b.2.proposer ∨ (a.2.proposer = b.2.proposer ∧ a.2.tag ≤ b.2.tag))) := by
  simp [heldBefore]

/-- The held list stands in the order of R13. -/
theorem sortBy_heldBefore_pairwise (l : List (Nat × Pair)) :
    (sortBy heldBefore l).Pairwise (fun a b => heldBefore a b = true) := by
  have : Std.Total (fun a b : Nat × Pair => heldBefore a b = true) :=
    ⟨fun a b => by rw [heldBefore_iff, heldBefore_iff]; omega⟩
  have : IsTrans (Nat × Pair) (fun a b => heldBefore a b = true) :=
    ⟨fun a b c => by rw [heldBefore_iff, heldBefore_iff, heldBefore_iff]; omega⟩
  rw [sortBy_eq_insertionSort]
  exact List.pairwise_insertionSort _ l

theorem mem_sortBy {α : Type} (le : α → α → Bool) (l : List α) (x : α) : x ∈ sortBy le l ↔ x ∈ l := by
  rw [sortBy_eq_insertionSort, List.mem_insertionSort]

namespace State

/-- The fire times and names of the SHARED entries whose held-flag is set, by handle. -/
def heldPairs (s : State) : List (Nat × Pair) :=
  s.handled.filterMap fun (_, e) =>
    match e.kind with
    | .shared name => if e.heldFlag then some (e.nextFire, name) else none
    | .localOnly => none

theorem heldList_eq (s : State) : s.heldList = (sortBy heldBefore s.heldPairs).map (·.2) := rfl

theorem mem_heldPairs (s : State) (time : Nat) (name : Pair) : (time, name) ∈ s.heldPairs ↔
    ∃ h e, h < 16 ∧ s.holds h e ∧ e.kind = .shared name ∧ e.heldFlag = true ∧ e.nextFire = time := by
  rw [heldPairs, List.mem_filterMap]
  constructor
  · rintro ⟨⟨h, e⟩, inList, found⟩
    obtain ⟨inRange, holds⟩ := (mem_handled s h e).1 inList
    refine ⟨h, e, inRange, holds, ?_⟩
    cases kind : e.kind <;> simp_all
  · rintro ⟨h, e, inRange, holds, kind, flag, rfl⟩
    exact ⟨(h, e), (mem_handled s h e).2 ⟨inRange, holds⟩, by simp [kind, flag]⟩

end State

/-- Settles O36: the content is what `buildBeacon` reads from the blocks, field by field. -/
theorem ownBeaconIsBuiltAtItsInstant : Obligations.OwnBeaconIsBuiltAtItsInstant := by
  intro s running valid stands
  have row : exec .ownSendInstant s = .next
      (if s.sync.state.transmits then s.markTaken.beginBeacon else s.markTaken) := by
    show execOwnSendInstant s = _
    rw [execOwnSendInstant, if_pos (State.running_of_not_starting running), State.takeOwnSend,
      if_pos (State.atSendInstant.untaken (j := s.own) valid stands)]
  rw [row]
  refine ⟨fun silent => by rw [if_neg (by simpa using silent)]; rfl, fun transmits => ?_⟩
  rw [if_pos transmits]
  refine ⟨s.buildBeacon, sortBy heldBefore s.heldPairs, _, rfl, rfl, rfl, ?_, rfl, fun j inRange => ?_,
    fun silent => ?_,
    fun h name e speaks own pending => ?_, fun silent => ?_, fun speaks => ⟨?_, ?_, fun time name => ?_⟩⟩
  · have state := transmits
    revert state
    simp only [State.buildBeacon, State.transmitting]
    cases s.sync.state <;> decide
  · simp only [State.buildBeacon]
    rw [inSet_addTo _ inRange, Bool.or_eq_true, State.inSet_memberView _ inRange, decide_eq_true_eq, or_comm]
    rfl
  · rcases silent with leaving | unoffered
    · simp [State.buildBeacon, leaving]
    · simp [State.buildBeacon, State.ownOffer, unoffered]
  · simp [State.buildBeacon, State.ownOffer, speaks, own, State.pendingEntry_eq_some.2 pending, epochOf, positionOf]
  · simp [State.buildBeacon, silent]
  · simp [State.buildBeacon, speaks, State.heldList_eq]
  · exact (sortBy_heldBefore_pairwise _).imp fun h => (heldBefore_iff _ _).1 h
  · rw [mem_sortBy, State.mem_heldPairs]

/-! ## Window closes (R58) -/

namespace State

/-- A report of a change after which the entry of p is no MEMBER: MEMBERSHIP raised, arming evaluated, and isolation
where the last MEMBER was lost (R64, R103, R151). -/
theorem updatePeer_lost {s : State} {p : Nat} {old new : Peer} (changed : old.state ≠ new.state)
    (state : new.state ≠ .member) {u : State} (reported : u = (s.setPeer p new).raiseMembership.evaluateArming) :
    (s.sync.state ≠ .track ∨ old.state ≠ .member ∨ (∃ m, m ≠ p ∧ s.memberAt m) → s.updatePeer p old new = u) ∧
    (s.sync.state = .track → old.state = .member → (∀ m, m ≠ p → ¬ s.memberAt m) →
      s.updatePeer p old new = u.changeState .holdover .isolated) := by
  have update : s.updatePeer p old new = u.isolationCheck old.state := by
    rw [updatePeer, if_neg changed, reportChange, reported]
  have sync : u.sync = s.sync := by rw [reported]; simp
  have members := memberAt_set_iff (s := s) (t := u) (p := p) (by rw [reported]; simp) state
  rw [update]
  refine ⟨fun kept => isolationCheck_kept ?_,
    fun track member lost => isolationCheck_lost (by rw [sync, track]) member ?_⟩
  · rw [sync]
    exact kept.imp_right (Or.imp_right fun ⟨m, other, hm⟩ => ⟨m, (members m).2 ⟨other, hm⟩⟩)
  · exact fun m hm => lost m ((members m).1 hm).1 ((members m).1 hm).2

/-- An entry that keeps its state is replaced, and nothing is reported (R64). -/
theorem updatePeer_same (s : State) (p : Nat) {old new : Peer} (same : old.state = new.state) :
    s.updatePeer p old new = s.setPeer p new :=
  if_pos same

end State

/-- A miss below the limit, or of an entry that is neither CANDIDATE nor MEMBER, moves the runs alone (R58). -/
theorem Peer.afterMiss_kept {c : ConfigStore} {e : Peer} (notSelf : e.state ≠ .self)
    (low : e.state = .absent ∨ e.state = .excluded ∨ min 255 (e.missRun + 1) < c.missLimit) :
    e.afterMiss c = { e with missRun := min 255 (e.missRun + 1), goodRun := 0 } := by
  unfold Peer.afterMiss
  simp only []
  split
  case h_5 self => exact absurd self notSelf
  case h_1 state | h_2 state =>
    have below := (low.resolve_left (by simp [state])).resolve_left (by simp [state])
    exact if_neg (by omega)
  all_goals rfl

/-- A CANDIDATE or MEMBER at the miss limit goes (R46, R58). -/
theorem Peer.afterMiss_lost {c : ConfigStore} {e : Peer} (standing : e.state = .candidate ∨ e.state = .member)
    (limit : c.missLimit ≤ min 255 (e.missRun + 1)) :
    e.afterMiss c = ({ e with missRun := min 255 (e.missRun + 1), goodRun := 0 } : Peer).makeAbsent := by
  unfold Peer.afterMiss
  rcases standing with state | state
  · rw [state]; exact if_pos limit
  · rw [state]; exact if_pos limit

/-- Settles O38. -/
theorem windowCloseJudgesThePeer : Obligations.WindowCloseJudgesThePeer := by
  intro s j running valid stands
  have row : exec .windowClose s = .next (if s.sync.state.transmits && j != s.own && !(inSet s.link.heard j)
      then s.markTaken.missedWindow j else s.markTaken) := by
    show execWindowClose s = _
    rw [execWindowClose, if_pos (State.running_of_not_starting running), State.takeWindowClose,
        State.atWindowClose.untaken valid stands]
  rw [row]
  refine ⟨fun spared => ?_, fun e miss transmits other unheard entry notSelf miss_eq => ?_⟩
  · refine congrArg Host.Outcome.next (if_neg ?_)
    rcases spared with h | h | h
    · simp [show s.sync.state.transmits = false from h]
    · simp [State.own, h]
    · simp [h]
  · have judged : (s.sync.state.transmits && j != s.own && !(inSet s.link.heard j)) = true := by
      simp [show s.sync.state.transmits = true from transmits, State.own, other, unheard]
    have missed : s.markTaken.missedWindow j = s.markTaken.updatePeer j e (e.afterMiss s.port.config) := by
      simp [State.missedWindow, State.peer, entry]
    rw [if_pos judged, missed]
    subst miss_eq
    refine ⟨fun low => ?_, fun standing limit u hu => ?_⟩
    · have stays : e.afterMiss s.port.config = { e with missRun := min 255 (e.missRun + 1), goodRun := 0 } :=
        Peer.afterMiss_kept notSelf low
      rw [stays, State.updatePeer_same s.markTaken j (by rfl)]
      rfl
    · rw [Peer.afterMiss_lost standing limit]
      have lost := State.updatePeer_lost (s := s.markTaken) (p := j) (old := e) (u := u)
        (new := ({ e with missRun := min 255 (e.missRun + 1), goodRun := 0 } : Peer).makeAbsent)
        (by rcases standing with state | state <;> simp [state, Peer.makeAbsent]) (by simp [Peer.makeAbsent]) hu
      exact ⟨fun kept => congrArg Host.Outcome.next (lost.1 kept),
        fun track member alone => congrArg Host.Outcome.next (lost.2 track member alone)⟩

end Sys2Proof.Machine
end

section
/-!
What the schedule's events depend on, so that they run alike in states that differ elsewhere (R119, R137).
-/
namespace Sys2Proof.Machine
namespace State

/-! ## What the schedule's events depend on -/

/-- A state is its schedule, its capture unit and its overflow flag, and all the rest. -/
theorem eq_of_offSchedule {t u : State} (off : t.offSchedule = u.offSchedule) (same : t.sameScheduleAs u) : t = u := by
  obtain ⟨schedule, capture, overflow⟩ := same
  have rebuilt : ∀ v : State, v = { v.offSchedule with
      schedule := v.schedule, capture := v.capture, port.alerts.overflow := v.port.alerts.overflow } := fun _ => rfl
  rw [rebuilt t, rebuilt u, off, schedule, capture, overflow]

theorem sameScheduleAs_iff {t u : State} : t.sameScheduleAs u ↔ t.schedule = u.schedule ∧ t.posted = u.posted := by
  simp only [sameScheduleAs, posted, Prod.mk.injEq]

/-- Alike to the schedule's firings: the same schedule, capture unit, overflow flag and straps. -/
def firesAlike (t u : State) : Prop := t.sameScheduleAs u ∧ t.port.straps = u.port.straps

/-- Alike to the agreement logic: alike to the firings, with the same peer table. -/
def agreesAlike (t u : State) : Prop := t.firesAlike u ∧ t.peers = u.peers

theorem firesAlike.schedule {t u : State} (h : t.firesAlike u) : t.schedule = u.schedule := h.1.1

theorem firesAlike.trans {t u v : State} (h : t.firesAlike u) (k : u.firesAlike v) : t.firesAlike v := by
  obtain ⟨⟨schedule, capture, overflow⟩, straps⟩ := h
  obtain ⟨⟨schedule', capture', overflow'⟩, straps'⟩ := k
  exact ⟨⟨schedule.trans schedule', capture.trans capture', overflow.trans overflow'⟩, straps.trans straps'⟩

theorem firesAlike.posted {t u : State} (h : t.firesAlike u) : t.posted = u.posted := (sameScheduleAs_iff.1 h.1).2

theorem firesAlike_of {t u : State} (schedule : t.schedule = u.schedule) (posted : t.posted = u.posted)
    (straps : t.port.straps = u.port.straps) : t.firesAlike u :=
  ⟨sameScheduleAs_iff.2 ⟨schedule, posted⟩, straps⟩

theorem fireAs_schedule (s : State) (h : Nat) (e : Entry) (after : Option Entry) (late : Bool) (k : Nat) :
    (s.fireAs h e after late k).schedule = ((s.pulseLines e.lines e.width).setSlot h after).schedule := by
  unfold fireAs
  simp only []
  split <;> simp

theorem fireAs_posted (s : State) (h : Nat) (e : Entry) (after : Option Entry) (late : Bool) (k : Nat) :
    (s.fireAs h e after late k).posted =
      if e.reportFires then postOn s.posted (.fire h e.kind (stampOf s.straps e.nextFire) late k) else s.posted := by
  have set_posted : ((s.pulseLines e.lines e.width).setSlot h after).posted = s.posted := rfl
  unfold fireAs
  simp only []
  split <;> simp [set_posted]

theorem fireAs_firesAlike {t u : State} (alike : t.firesAlike u) (h : Nat) (e : Entry) (after : Option Entry)
    (late : Bool) (k : Nat) : (t.fireAs h e after late k).firesAlike (u.fireAs h e after late k) := by
  have straps := alike.2
  refine firesAlike_of ?_ ?_ ?_
  · rw [fireAs_schedule, fireAs_schedule]
    simp only [setSlot, pulseLines, alike.schedule]
  · rw [fireAs_posted, fireAs_posted, alike.posted]
    simp only [State.straps, straps]
  · rw [offSchedule_straps (fireAs_offSchedule t h e after late k),
      offSchedule_straps (fireAs_offSchedule u h e after late k), straps]

/-! ### The tag counter is PROPOSE's alone (R143) -/

theorem fireAs_tagCounter (s : State) (h : Nat) (e : Entry) (after : Option Entry) (late : Bool) (k : Nat) :
    (s.fireAs h e after late k).schedule.tagCounter = s.schedule.tagCounter := by
  rw [fireAs_schedule]
  rfl

theorem fireIfDue_tagCounter (s : State) (h : Nat) : (s.fireIfDue h).schedule.tagCounter = s.schedule.tagCounter := by
  unfold fireIfDue fireOnTime
  split
  · split
    · rw [fireAs_tagCounter]
    · rfl
  · rfl

theorem lateFireIfPassed_tagCounter (a b : Nat) (s : State) (h : Nat) :
    (lateFireIfPassed a b s h).schedule.tagCounter = s.schedule.tagCounter := by
  unfold lateFireIfPassed fireLate
  split
  · split
    · rw [fireAs_tagCounter]
    · rfl
  · rfl

/-- The declined list is not the tag counter. -/
theorem tagCounter_of_declined (s : State) (d : List Declined) :
    ({ s with schedule.declined := d } : State).schedule.tagCounter = s.schedule.tagCounter := rfl

theorem takeReached_tagCounter (s : State) : s.takeReached.schedule.tagCounter = s.schedule.tagCounter := by
  unfold takeReached takeExpiries takeFirings
  rw [tagCounter_of_declined]
  exact foldl_keeps (g := fun u : State => u.schedule.tagCounter) fireIfDue_tagCounter _ s

theorem jumpSchedule_tagCounter (s : State) (a b : Nat) :
    (s.jumpSchedule a b).schedule.tagCounter = s.schedule.tagCounter := by
  unfold jumpSchedule
  split
  · simp only []
    rw [tagCounter_of_declined]
    exact foldl_keeps (g := fun u : State => u.schedule.tagCounter) (lateFireIfPassed_tagCounter a b) _ s
  · rfl

/-! ### Alike states fire alike -/

theorem entry_alike {t u : State} (schedule : t.schedule = u.schedule) (h : Nat) : t.entry h = u.entry h := by
  unfold entry
  rw [schedule]

theorem fireIfDue_firesAlike {t u : State} (now : t.now = u.now) (alike : t.firesAlike u) (h : Nat) :
    (t.fireIfDue h).firesAlike (u.fireIfDue h) := by
  unfold fireIfDue
  rw [entry_alike alike.schedule, now]
  split
  · split
    · unfold fireOnTime epochLen straps
      rw [alike.2]
      exact fireAs_firesAlike alike _ _ _ _ _
    · exact alike
  · exact alike

theorem lateFireIfPassed_firesAlike (a b : Nat) {t u : State} (alike : t.firesAlike u) (h : Nat) :
    (lateFireIfPassed a b t h).firesAlike (lateFireIfPassed a b u h) := by
  unfold lateFireIfPassed
  rw [entry_alike alike.schedule]
  split
  · split
    · unfold fireLate epochLen straps
      rw [alike.2]
      exact fireAs_firesAlike alike _ _ _ _ _
    · exact alike
  · exact alike

/-- A relation that every turn of a fold keeps, the fold keeps. -/
theorem foldl_alike {β : Type} {f : State → β → State} {R : State → State → Prop}
    (turn : ∀ t u x, R t u → R (f t x) (f u x)) (l : List β) {t u : State} (start : R t u) :
    R (l.foldl f t) (l.foldl f u) := by
  induction l generalizing t u with
  | nil => exact start
  | cons x l ih => exact ih (turn t u x start)

/-- Equal timebases stand at equal values of T. -/
theorem now_eq_of_timebase {t u : State} (h : t.timebase = u.timebase) : t.now = u.now := congrArg Timebase.time h

/-- Alike states are alike with the same records of the declined list kept. -/
theorem filterDeclined_firesAlike {t u : State} (alike : t.firesAlike u) (keep : Declined → Bool) :
    ({ t with schedule.declined := t.schedule.declined.filter keep } : State).firesAlike
      { u with schedule.declined := u.schedule.declined.filter keep } :=
  firesAlike_of (by simp only [alike.schedule]) alike.posted alike.2

theorem takeExpiries_firesAlike {t u : State} (now : t.now = u.now) (alike : t.firesAlike u) :
    t.takeExpiries.firesAlike u.takeExpiries := by
  unfold takeExpiries
  rw [now]
  exact filterDeclined_firesAlike alike _

theorem takeReached_firesAlike {t u : State} (now : t.now = u.now) (alike : t.firesAlike u) :
    t.takeReached.firesAlike u.takeReached := by
  have turn : ∀ (t u : State) (h : Nat), (t.firesAlike u ∧ t.now = u.now) →
      (t.fireIfDue h).firesAlike (u.fireIfDue h) ∧ (t.fireIfDue h).now = (u.fireIfDue h).now := by
    rintro t u h ⟨alike, now⟩
    refine ⟨fireIfDue_firesAlike now alike h, ?_⟩
    rw [now_eq_of_timebase (offSchedule_timebase (fireIfDue_offSchedule t h)),
      now_eq_of_timebase (offSchedule_timebase (fireIfDue_offSchedule u h)), now]
  have fired : t.takeFirings.firesAlike u.takeFirings ∧ t.takeFirings.now = u.takeFirings.now := by
    unfold takeFirings
    exact foldl_alike (R := fun t u => t.firesAlike u ∧ t.now = u.now) turn _ ⟨alike, now⟩
  exact takeExpiries_firesAlike fired.2 fired.1

theorem jumpSchedule_firesAlike {t u : State} (alike : t.firesAlike u) (a b : Nat) :
    (t.jumpSchedule a b).firesAlike (u.jumpSchedule a b) := by
  unfold jumpSchedule
  split
  · exact filterDeclined_firesAlike
      (foldl_alike (R := firesAlike) (fun _ _ h alike => lateFireIfPassed_firesAlike a b alike h) _ alike) _
  · exact alike

theorem endProposal_schedule_alike {t u : State} (schedule : t.schedule = u.schedule) (h : Nat) :
    (t.endProposal h).schedule = (u.endProposal h).schedule := by
  unfold endProposal
  rw [schedule]
  split <;> simp [schedule]

theorem arm_agreesAlike {t u : State} (alike : t.agreesAlike u) (h : Nat) (name : Pair) (e : Entry) :
    (t.arm h name e).agreesAlike (u.arm h name e) := by
  obtain ⟨fires, peers⟩ := alike
  have view : t.memberView = u.memberView := by
    unfold memberView isMember peer
    rw [peers]
  refine ⟨firesAlike_of ?_ ?_ ?_, by rw [arm_peers, arm_peers, peers]⟩
  · unfold arm
    rw [post_schedule, post_schedule]
    exact endProposal_schedule_alike (by simp only [setSlot_schedule, fires.schedule]) h
  · have set_posted : ∀ (v : State) x, (v.setSlot h x).posted = v.posted := fun _ _ => rfl
    unfold arm
    rw [post_posted, post_posted, endProposal_posted, endProposal_posted, set_posted, set_posted, fires.posted, view]
    simp only [State.straps, fires.2]
  · rw [offSchedule_straps (arm_offSchedule t h name e), offSchedule_straps (arm_offSchedule u h name e), fires.2]

theorem evaluateSlot_agreesAlike {t u : State} (alike : t.agreesAlike u) (h : Nat) :
    (t.evaluateSlot h).agreesAlike (u.evaluateSlot h) := by
  obtain ⟨fires, peers⟩ := alike
  have pending : t.pendingEntry h = u.pendingEntry h := pendingEntry_congr (by rw [fires.schedule])
  have arming : t.armingHolds = u.armingHolds := by
    funext name
    simp only [armingHolds, isMember, peer, own, State.straps, peers, fires.2]
  unfold evaluateSlot
  rw [pending, arming]
  split
  · split
    · exact arm_agreesAlike ⟨fires, peers⟩ _ _ _
    · exact ⟨fires, peers⟩
  · exact ⟨fires, peers⟩

/-- Evaluating the arming of every PENDING entry looks at the schedule, the peer table and the straps alone (R150). -/
theorem evaluateArming_agreesAlike {t u : State} (alike : t.agreesAlike u) :
    t.evaluateArming.agreesAlike u.evaluateArming := by
  unfold evaluateArming
  exact foldl_alike (R := agreesAlike) (fun _ _ h alike => evaluateSlot_agreesAlike alike h) _ alike

/-- The state with another link engine. -/
def withLink (s : State) (l : Link) : State := { s with link := l }

theorem sameScheduleAs_withLink {t u : State} (same : t.sameScheduleAs u) (l : Link) :
    t.sameScheduleAs (u.withLink l) :=
  same

theorem agreesAlike.sameSchedule {t u : State} (alike : t.agreesAlike u) : t.sameScheduleAs u := alike.1.1

/-- The sync controller and the STATE flag are no part of the schedule's. -/
theorem sameScheduleAs_of_state {t u : State} (same : t.sameScheduleAs u) (y : Sync) (raised : Bool) :
    ({ t with sync := y, port.alerts.state := raised } : State).sameScheduleAs u :=
  same

/-- The agreement logic neither looks at the link engine nor touches it. -/
theorem evaluateArming_withLink (s : State) (l : Link) :
    (s.withLink l).evaluateArming = s.evaluateArming.withLink l := by
  have off : ∀ u : State, (u.withLink l).offSchedule = u.offSchedule.withLink l := fun _ => rfl
  have alike : (s.withLink l).agreesAlike s := ⟨⟨⟨rfl, rfl, rfl⟩, rfl⟩, rfl⟩
  have evaluated : (s.withLink l).evaluateArming.sameScheduleAs s.evaluateArming :=
    (evaluateArming_agreesAlike alike).1.1
  refine eq_of_offSchedule ?_ (sameScheduleAs_withLink evaluated l)
  rw [evaluateArming_offSchedule, off, off, evaluateArming_offSchedule]

/-- Isolation, block by block: HOLDOVER agrees, so nothing is abandoned (R91, R103, R157). -/
theorem changeState_isolated (s : State) : s.changeState .holdover .isolated =
    { s with sync := s.sync.enter .holdover .isolated, port.alerts.state := true } := by
  rw [changeState_plain _ _ (by decide), enter_eq_of_stays _ (.inr rfl)]
  simp [StationState.quiet, Link.enter]

theorem isolationCheck_withLink (s : State) (l : Link) (old : PeerState) :
    (s.withLink l).isolationCheck old = (s.isolationCheck old).withLink l := by
  have same : (s.withLink l).sync.state = s.sync.state ∧ (s.withLink l).memberCount = s.memberCount := ⟨rfl, rfl⟩
  unfold isolationCheck
  rw [same.1, same.2]
  split
  · rw [changeState_isolated, changeState_isolated]
    rfl
  · rfl

theorem updatePeer_withLink (s : State) (l : Link) (p : Nat) (old new : Peer) :
    (s.withLink l).updatePeer p old new = (s.updatePeer p old new).withLink l := by
  have raised : ((s.withLink l).setPeer p new).raiseMembership = ((s.setPeer p new).raiseMembership).withLink l := rfl
  unfold updatePeer
  simp only []
  split
  · rfl
  · rw [reportChange, raised, evaluateArming_withLink, isolationCheck_withLink, reportChange]

/-- A bad frame neither looks at the link engine nor touches it: its charge is the peer table's (R57). -/
theorem badFrame_withLink (s : State) (l : Link) (p : Nat) : (s.withLink l).badFrame p = (s.badFrame p).withLink l := by
  have same : (s.withLink l).peer p = s.peer p := rfl
  unfold badFrame
  rw [same]
  split
  · exact updatePeer_withLink _ _ _ _ _
  · rfl

theorem badFrame_link (s : State) (p : Nat) : (s.badFrame p).link = s.link :=
  congrArg (·.link) (badFrame_withLink s s.link p)

end State
end Sys2Proof.Machine
end

section
/-!
The end of a frame: its class, and what a frame does that reaches no peer, or a bad one in a window (R14, R15).
-/
namespace Sys2Proof.Machine

/-! ## Fields of a received frame (R14, R199) -/

theorem numberOf_lt (bits : List Bool) : numberOf bits < 2 ^ bits.length := by
  have fold : ∀ n, bits.foldl (fun n b => 2 * n + b.toNat) n < (n + 1) * 2 ^ bits.length := by
    induction bits with
    | nil => simp
    | cons b bits ih =>
      intro n
      rw [List.foldl_cons, List.length_cons, pow_succ]
      have next := ih (2 * n + b.toNat)
      have bit : b.toNat ≤ 1 := b.toNat_le
      nlinarith [Nat.two_pow_pos bits.length]
  unfold numberOf
  simpa using fold 0

theorem field_lt (bits : List Bool) (start width : Nat) : field bits start width < 2 ^ width :=
  (numberOf_lt _).trans_le (Nat.pow_le_pow_right (by decide) (List.length_take_le _ _))

/-- A valid beacon bears its sender in the sender field, and its epoch is a 32-bit number (R14, R15, R199). -/
theorem validBeacon_fields {straps : Straps} {bits : List Bool} {b : Beacon} (h : validBeacon straps bits = some b) :
    senderField (fieldBits bits) = some b.sender ∧ b.epoch < 2 ^ 32 ∧ b.sender < windows straps := by
  obtain ⟨parsed, valid⟩ := Option.filter_eq_some_iff.1 h
  have sender : b.sender < windows straps := by
    simp only [beaconValid, Bool.and_eq_true, decide_eq_true_eq] at valid
    tauto
  unfold parseFields at parsed
  simp only [] at parsed
  split_ifs at parsed with length
  all_goals
    obtain rfl := Option.some.inj parsed
    exact ⟨if_pos (by omega), field_lt _ _ _, sender⟩

/-! ## Classes of frames (R15) -/

theorem framePasses_iff (bits : List Bool) (inError : Bool) :
    framePasses bits inError = true ↔ inError = false ∧ crcPasses bits = true := by
  simp [framePasses]

theorem classify_ownNumber {straps : Straps} {bits : List Bool} {inError : Bool} (n : Nat) (mark : Int)
    (passes : framePasses bits inError = true) (own : senderField (fieldBits bits) = some (ownNumber straps)) :
    classify straps n mark bits inError = .ownNumber := by
  simp [classify, passes, bearsOwnNumber, own]

/-- A frame is bad when it fails its CRC, or bears neither the own number nor valid fields (R15). -/
def frameBad (straps : Straps) (bits : List Bool) (inError : Bool) : Prop :=
  framePasses bits inError = false ∨
    (senderField (fieldBits bits) ≠ some (ownNumber straps) ∧ validBeacon straps bits = none)

theorem frameBad_of {straps : Straps} {bits : List Bool} {inError : Bool}
    (h : inError = true ∨ crcPasses bits = false ∨
      (senderField (fieldBits bits) ≠ some (ownNumber straps) ∧ validBeacon straps bits = none)) :
    frameBad straps bits inError := by
  obtain h | h | h := h
  · exact .inl (by simp [framePasses, h])
  · exact .inl (by simp [framePasses, h])
  · exact .inr h

theorem classify_bad {straps : Straps} {bits : List Bool} {inError : Bool} (bad : frameBad straps bits inError)
    (n : Nat) (mark : Int) : classify straps n mark bits inError =
      (intervalHolding straps n mark).elim .discarded .badFrame := by
  unfold classify
  obtain fails | ⟨other, invalid⟩ := bad
  · simp only [fails]
    cases intervalHolding straps n mark <;> rfl
  · have bears : bearsOwnNumber straps bits = false := by simpa [bearsOwnNumber] using other
    simp only [bears, invalid, ite_self, Bool.and_false]
    cases intervalHolding straps n mark <;> rfl

theorem classify_valid {straps : Straps} {bits : List Bool} {inError : Bool} {b : Beacon}
    (passes : framePasses bits inError = true) (valid : validBeacon straps bits = some b)
    (other : b.sender ≠ ownNumber straps) (n : Nat) (mark : Int) : classify straps n mark bits inError =
      if intervalHolding straps n mark = some b.sender ∧ resolveEpoch b.epoch n = n then .good b else .stray b := by
  obtain ⟨sender, -⟩ := validBeacon_fields valid
  simp [classify, passes, valid, bearsOwnNumber, sender, other]

namespace State

/-! ## The end of a frame, by station state (R15, R19, R20) -/

/-- The state in which a frame's end is judged: no frame is received any longer, and the line can be idle when T has run
`wait` (R8). -/
def frameEnded (s : State) (wait : Nat) : State := { s with link.reception := none, link.idleIn := wait }

theorem exec_frameEnd {s : State} (running : s.port.starting = none) (bits : List Bool) (inError : Bool) :
    exec (.frameEnd bits inError) s = .next (s.endFrame bits inError (idleAfter bits inError)) :=
  congrArg Host.Outcome.next (if_pos (running_of_not_starting running))

theorem exec_receiveTimeout {s : State} (running : s.port.starting = none) :
    exec .receiveTimeout s = .next (s.endFrame [] true 1) :=
  congrArg Host.Outcome.next (if_pos (running_of_not_starting running))

theorem endFrame_none {s : State} (reception : s.link.reception = none) (bits : List Bool) (inError : Bool)
    (wait : Nat) : s.endFrame bits inError wait = s := by
  simp [endFrame, reception]

section
variable {s : State} {r : Reception} (reception : s.link.reception = some r)
include reception

theorem endFrame_transmitting (transmits : s.transmitting = true) (bits : List Bool) (inError : Bool) (wait : Nat) :
    s.endFrame bits inError wait = (s.frameEnded wait).judgeFrame r.correctedMark bits inError := by
  unfold endFrame
  rw [reception]
  revert transmits
  simp only [transmitting]
  cases s.sync.state <;> simp [StationState.transmits, frameEnded]

theorem endFrame_listen (listening : s.sync.state = .listen) (bits : List Bool) (inError : Bool) (wait : Nat) :
    s.endFrame bits inError wait = (s.frameEnded wait).listenFrame r.correctedMark bits inError := by
  unfold endFrame
  rw [reception, listening]
  rfl

theorem endFrame_quiet (quiet : s.sync.state = .dormant ∨ s.sync.state = .halted) (bits : List Bool) (inError : Bool)
    (wait : Nat) : s.endFrame bits inError wait = s.frameEnded wait := by
  unfold endFrame
  rw [reception]
  rcases quiet with state | state <;> rw [state] <;> rfl

end

theorem judgeFrame_ownNumber {s : State} {bits : List Bool} {inError : Bool}
    (passes : framePasses bits inError = true) (own : senderField (fieldBits bits) = some (ownNumber s.straps))
    (mark : Int) : s.judgeFrame mark bits inError = s.changeState .halted .duplicate := by
  simp [judgeFrame, classify_ownNumber _ _ passes own]

theorem listenFrame_ownNumber {s : State} {bits : List Bool} {inError : Bool}
    (passes : framePasses bits inError = true) (own : senderField (fieldBits bits) = some (ownNumber s.straps))
    (mark : Int) : s.listenFrame mark bits inError = s.changeState .halted .duplicate := by
  simp [listenFrame, passes, bearsOwnNumber, own]

/-- A valid beacon out of its sender's window or of another epoch is a stray (R15, R18). -/
theorem judgeFrame_stray {s : State} {mark : Int} {bits : List Bool} {inError : Bool} {b : Beacon}
    (passes : framePasses bits inError = true) (valid : validBeacon s.straps bits = some b)
    (other : b.sender ≠ ownNumber s.straps)
    (missed : ¬ (intervalHolding s.straps s.windowEpoch mark = some b.sender ∧
      resolveEpoch b.epoch s.windowEpoch = s.windowEpoch)) :
    s.judgeFrame mark bits inError = s.hearStray b := by
  simp [judgeFrame, classify_valid passes valid other, missed]

theorem judgeFrame_discarded {s : State} {mark : Int} {bits : List Bool} {inError : Bool}
    (bad : frameBad s.straps bits inError) (outside : intervalHolding s.straps s.windowEpoch mark = none) :
    s.judgeFrame mark bits inError = s := by
  simp [judgeFrame, classify_bad bad, outside]

/-- A bad frame is charged to the station of the window that holds its mark, but in the own window (R17). -/
theorem judgeFrame_bad {s : State} {mark : Int} {bits : List Bool} {inError : Bool} {j : Nat}
    (bad : frameBad s.straps bits inError) (inside : intervalHolding s.straps s.windowEpoch mark = some j) :
    s.judgeFrame mark bits inError = if j = s.own then s else s.badFrame j := by
  simp [judgeFrame, classify_bad bad, inside]

theorem judgeFrame_good {s : State} {mark : Int} {bits : List Bool} {b : Beacon} (passes : crcPasses bits = true)
    (valid : validBeacon s.straps bits = some b) (other : b.sender ≠ ownNumber s.straps)
    (inside : intervalHolding s.straps s.windowEpoch mark = some b.sender)
    (epoch : resolveEpoch b.epoch s.windowEpoch = s.windowEpoch) :
    s.judgeFrame mark bits false = s.deliverGood b mark := by
  have good : classify s.straps s.windowEpoch mark bits false = .good b := by
    rw [classify_valid ((framePasses_iff _ _).2 ⟨rfl, passes⟩) valid other, if_pos ⟨inside, epoch⟩]
  simp [judgeFrame, good]

theorem intervalHolding_eq_none {s : State} (valid : strapsValid s.straps = true) {mark : Int}
    (outside : ∀ j, ¬ s.markInInterval j mark) : intervalHolding s.straps s.windowEpoch mark = none :=
  Option.eq_none_iff_forall_ne_some.2 fun j held => outside j ((markInInterval_iff valid).2 held)

/-- A frame that fails its CRC is no heard beacon in LISTEN (R19). -/
theorem listenFrame_fails {s : State} {bits : List Bool} {inError : Bool} (fails : framePasses bits inError = false)
    (mark : Int) : s.listenFrame mark bits inError = s := by
  simp [listenFrame, fails]

theorem listenFrame_unheard {s : State} {bits : List Bool} {inError : Bool}
    (other : senderField (fieldBits bits) ≠ some (ownNumber s.straps))
    (unheard : ∀ b, validBeacon s.straps bits = some b → s.aligns b = false) (mark : Int) :
    s.listenFrame mark bits inError = s := by
  have bears : bearsOwnNumber s.straps bits = false := by simpa [bearsOwnNumber] using other
  unfold listenFrame
  rw [bears]
  split
  · rfl
  · simp only [Bool.false_eq_true, if_false]
    split
    · rename_i b valid
      rw [unheard b valid]
      rfl
    · rfl

end State

/-- Settles O30: the classes of R15 one by one, then LISTEN. -/
theorem framesThatReachNoPeer : Obligations.FramesThatReachNoPeer := by
  refine ⟨⟨rfl, fun bits => ⟨idleAfter_error bits, idleAfter_zero bits, idleAfter_one bits⟩⟩, ?_⟩
  intro s bits inError running
  rw [State.exec_frameEnd running, State.exec_receiveTimeout running]
  refine ⟨fun absent => by rw [State.endFrame_none absent, State.endFrame_none absent]; exact ⟨rfl, rfl⟩, ?_⟩
  rintro r reception u late rfl rfl
  have timeoutBad : frameBad s.straps [] true := .inl rfl
  refine ⟨fun quiet => ?_, fun judged noError crc own => ?_,
    fun b transmits valid noError crc beacon other missed => ?_,
    fun transmits valid bad outside => ?_, fun transmits valid outside => ?_, fun listening => ?_,
    fun listening unheard => ?_⟩
  · rw [State.endFrame_quiet reception quiet, State.endFrame_quiet reception quiet]
    exact ⟨rfl, rfl⟩
  · have passes : framePasses bits inError = true := (framePasses_iff _ _).2 ⟨noError, crc⟩
    rcases judged with transmits | listening
    · rw [State.endFrame_transmitting reception transmits]
      exact congrArg _ (State.judgeFrame_ownNumber (s := s.frameEnded _) passes own _)
    · rw [State.endFrame_listen reception listening]
      exact congrArg _ (State.listenFrame_ownNumber (s := s.frameEnded _) passes own _)
  · have passes : framePasses bits inError = true := (framePasses_iff _ _).2 ⟨noError, crc⟩
    rw [State.endFrame_transmitting reception transmits]
    refine congrArg _ (State.judgeFrame_stray (s := s.frameEnded _) passes beacon other ?_)
    rintro ⟨inside, epoch⟩
    exact missed.elim (fun h => h ((State.markInInterval_iff valid).2 inside)) (fun h => h epoch)
  · rw [State.endFrame_transmitting reception transmits]
    exact congrArg _ (State.judgeFrame_discarded (s := s.frameEnded _) (frameBad_of bad)
      (State.intervalHolding_eq_none valid outside))
  · rw [State.endFrame_transmitting reception transmits]
    exact congrArg _ (State.judgeFrame_discarded (s := s.frameEnded 1) timeoutBad
      (State.intervalHolding_eq_none valid outside))
  · rw [State.endFrame_listen reception listening, State.listenFrame_fails rfl]
    rfl
  · rw [State.endFrame_listen reception listening]
    refine congrArg Host.Outcome.next ?_
    by_cases passes : framePasses bits inError = true
    · obtain ⟨noError, crc⟩ := (framePasses_iff _ _).1 passes
      obtain ⟨other, silent⟩ := (unheard.resolve_left (by simp [noError])).resolve_left (by simp [crc])
      refine State.listenFrame_unheard (s := s.frameEnded _) other (fun b beacon => ?_) _
      rcases silent b beacon with leaving | ⟨sources, foreign⟩
      · simp [State.aligns, leaving]
      · show (b.state != .leaving && (s.sync.alignSources == 0 || inSet s.sync.alignSources b.sender)) = false
        rw [beq_false_of_ne sources, foreign, Bool.or_false, Bool.and_false]
    · exact State.listenFrame_fails (by simpa using passes) _

/-! ## Bad frames (R17, R57, R59) -/

/-- A bad frame that trips nothing raises FRAME alone (R57). -/
theorem Peer.afterBadFrame_kept {c : ConfigStore} {e e' : Peer} (notSelf : e.state ≠ .self)
    (raised : e' = { e with frame := min 255 (e.frame + 4) })
    (low : e.state = .absent ∨ e.state = .excluded ∨
      (e'.frame < c.frameThreshold ∧ e.outlier < c.outlierThreshold ∧ e.view < c.viewThreshold)) :
    e.afterBadFrame c = e' := by
  subst raised
  unfold Peer.afterBadFrame
  simp only []
  split
  case h_5 self => exact absurd self notSelf
  case h_1 state | h_2 state =>
    have below := (low.resolve_left (by simp [state])).resolve_left (by simp [state])
    exact if_neg (Bool.eq_false_iff.1 ((Peer.tripped_eq_false c _).2 below))
  all_goals rfl

/-- A CANDIDATE or MEMBER at a threshold is tripped into EXCLUDED (R59). -/
theorem Peer.afterBadFrame_tripped {c : ConfigStore} {e e' : Peer}
    (raised : e' = { e with frame := min 255 (e.frame + 4) })
    (standing : e.state = .candidate ∨ e.state = .member)
    (high : c.frameThreshold ≤ e'.frame ∨ c.outlierThreshold ≤ e.outlier ∨ c.viewThreshold ≤ e.view) :
    e.afterBadFrame c = { e' with state := .excluded, goodRun := 0 } := by
  subst raised
  have trips : ({ e with frame := min 255 (e.frame + 4) } : Peer).tripped c = true := decide_eq_true high
  unfold Peer.afterBadFrame
  rcases standing with state | state
  · rw [state]; exact if_pos trips
  · rw [state]; exact if_pos trips

/-- Settles O31: every bad frame of a window is `badFrame` of its station, which sees nothing of the link engine. -/
theorem badFramesRaiseFrame : Obligations.BadFramesRaiseFrame := by
  intro s r j running transmits valid reception mark
  have inside := (State.markInInterval_iff valid).1 mark
  have charged : ∀ wait bits inError, frameBad s.straps bits inError → s.endFrame bits inError wait =
      if j = s.own then s.frameEnded wait else (s.frameEnded wait).badFrame j := by
    intro wait bits inError bad
    rw [State.endFrame_transmitting reception transmits]
    exact State.judgeFrame_bad (s := s.frameEnded wait) bad inside
  have timeout : exec .receiveTimeout s
      = .next (if j = s.own then s.frameEnded 1 else (s.frameEnded 1).badFrame j) := by
    rw [State.exec_receiveTimeout running, charged 1 [] true (.inl rfl)]
  have otherWait : ∀ wait, (s.frameEnded wait).badFrame j
      = { (s.frameEnded 1).badFrame j with link.idleIn := wait } := by
    intro wait
    have link := State.badFrame_link (s.frameEnded 1) j
    have moved := State.badFrame_withLink (s.frameEnded 1) (s.frameEnded wait).link j
    rw [show (s.frameEnded 1).withLink (s.frameEnded wait).link = s.frameEnded wait from rfl] at moved
    rw [moved]
    generalize (s.frameEnded 1).badFrame j = t at link
    simp only [State.withLink, link]
    rfl
  rw [timeout]
  refine ⟨fun own => ?_, fun e e' other entry notSelf raised => ?_, fun bits inError bad => ?_,
    fun bits b crc beacon sender other heard epoch => ?_⟩
  · exact congrArg _ (if_pos own)
  · have update : (s.frameEnded 1).badFrame j = (s.frameEnded 1).updatePeer j e (e.afterBadFrame s.port.config) := by
      have held : (s.frameEnded 1).peer j = some e := entry
      rw [State.badFrame, held]
      rfl
    rw [if_neg (show ¬ j = s.own from other), update]
    refine ⟨fun low => ?_, fun standing high u hu => ?_⟩
    · rw [Peer.afterBadFrame_kept notSelf raised low, State.updatePeer_same _ _ (by rw [raised])]
      rfl
    · rw [Peer.afterBadFrame_tripped raised standing high]
      have lost := State.updatePeer_lost (s := s.frameEnded 1) (p := j) (old := e) (u := u)
        (new := { e' with state := .excluded, goodRun := 0 })
        (by rcases standing with state | state <;> simp [state]) (by simp) hu
      exact ⟨fun kept => congrArg Host.Outcome.next (lost.1 kept),
        fun track member alone => congrArg Host.Outcome.next (lost.2 track member alone)⟩
  · refine ⟨_, rfl, ?_⟩
    rw [State.exec_frameEnd running, charged _ _ _ (frameBad_of bad)]
    split
    · rfl
    · rw [otherWait]
  · subst sender
    refine ⟨_, rfl, ?_⟩
    have delivered := State.judgeFrame_good (s := s.frameEnded (idleAfter bits false)) crc beacon other inside epoch
    have second : (s.frameEnded (idleAfter bits false)).deliverGood b r.correctedMark
        = (s.frameEnded (idleAfter bits false)).badFrame b.sender := if_pos heard
    rw [State.exec_frameEnd running, State.endFrame_transmitting reception transmits, delivered, second,
      if_neg (show ¬ b.sender = s.own from other), otherWait]

end Sys2Proof.Machine
end

section
/-!
A good beacon in its window: the arrival at the entry of its sender (R49 to R56).
-/
namespace Sys2Proof.Machine

/-! ## One arrival at an entry (R49 to R56) -/

/-- The settling of an arrival writes the state and the good run alone (R55). -/
theorem Peer.settle_eq (e : Peer) (c : ConfigStore) :
    e.settle c = { e with state := (e.settle c).state, goodRun := (e.settle c).goodRun } := by
  unfold Peer.settle
  repeat' split
  all_goals rfl

theorem Peer.settle_excluded {e : Peer} (c : ConfigStore) (state : e.state = .excluded) : e.settle c =
    if e.frame = 0 ∧ e.outlier = 0 ∧ e.view = 0 then { e with state := .candidate, goodRun := 0 } else e := by
  simp [Peer.settle, state]

theorem Peer.settle_tripped {e : Peer} {c : ConfigStore} (notSelf : e.state ≠ .self) (inside : e.state ≠ .excluded)
    (trips : e.tripped c = true) : e.settle c = { e with state := .excluded, goodRun := 0 } := by
  cases state : e.state <;> simp_all [Peer.settle]

theorem Peer.settle_kept {e : Peer} {c : ConfigStore} (notSelf : e.state ≠ .self) (inside : e.state ≠ .excluded)
    (below : e.tripped c = false) : e.settle c =
      { e with state := if e.state = .member ∨ c.admitCount ≤ e.goodRun then .member else .candidate } := by
  unfold Peer.settle
  split
  case h_1 self => exact absurd self notSelf
  case h_2 excluded => exact absurd excluded inside
  case h_5 member =>
    rw [if_neg (by simp [below]), if_pos (.inl member), ← member]
  all_goals
    rename_i state
    rw [if_neg (by simp [below])]
    by_cases admitted : c.admitCount ≤ e.goodRun <;> simp [admitted, state]

/-- The entry as an arrival has judged it, before its state is settled (R49 steps 1 to 5). -/
def Peer.judged (e : Peer) (c : ConfigStore) (b : Beacon) (lead : Int) (n : Nat) (viewTest : Bool) : Peer :=
  ((e.store b n).recordLead lead n).judge c lead viewTest

theorem Peer.afterArrival_eq (e : Peer) (c : ConfigStore) (b : Beacon) (lead : Int) (n : Nat) (viewTest : Bool) :
    e.afterArrival c b lead n viewTest = (e.judged c b lead n viewTest).settle c := rfl

/-- An arrival moves VIEW by its test, 4 up or 1 down (R52, R53). -/
theorem Peer.afterArrival_view (e : Peer) (c : ConfigStore) (b : Beacon) (lead : Int) (n : Nat) (viewTest : Bool) :
    (e.afterArrival c b lead n viewTest).view = if viewTest then min 255 (e.view + 4) else e.view - 1 := by
  rw [Peer.afterArrival_eq, Peer.settle_eq]
  rfl

theorem Peer.afterArrival_arrivesAs {e : Peer} (notSelf : e.state ≠ .self) (c : ConfigStore) (b : Beacon) (lead : Int)
    (n : Nat) (viewTest : Bool) : arrivesAs c b n lead e (e.afterArrival c b lead n viewTest) := by
  obtain ⟨x, hx⟩ : ∃ x, x = e.judged c b lead n viewTest := ⟨_, rfl⟩
  have state : x.state = e.state := by rw [hx]; rfl
  have fields : e.afterArrival c b lead n viewTest
      = { x with state := (x.settle c).state, goodRun := (x.settle c).goodRun } := by
    rw [Peer.afterArrival_eq, ← hx]
    exact Peer.settle_eq x c
  rw [fields]
  have outlier : x.outlier = if c.outlierBound < lead.natAbs then min 255 (e.outlier + 4) else e.outlier - 1 := by
    rw [hx]
    by_cases wide : c.outlierBound < lead.natAbs <;>
      simp [Peer.judged, Peer.judge, Peer.recordLead, Peer.store, penaltyStep, wide]
  refine ⟨by rw [hx]; rfl, by rw [hx]; rfl, by rw [hx]; rfl, by rw [hx]; rfl, by rw [hx]; rfl, by rw [hx]; rfl,
    by rw [hx]; rfl, by rw [hx]; rfl, by rw [hx]; rfl, outlier, fun run tripped run_eq trips => ?_⟩
  have goodRun : x.goodRun = if e.state = .excluded then 0 else run := by rw [hx, run_eq]; rfl
  have trips : tripped ↔ x.tripped c = true := by rw [trips]; exact decide_eq_true_iff.symm
  refine ⟨fun excluded => ?_, fun inside high => ?_, fun inside low => ?_⟩
  · rw [Peer.settle_excluded c (state.trans excluded)]
    split
    · exact ⟨rfl, rfl⟩
    · exact ⟨by rw [goodRun, if_pos excluded], state.trans excluded⟩
  · rw [Peer.settle_tripped (state ▸ notSelf) (state ▸ inside) (trips.1 high)]
    exact ⟨rfl, rfl⟩
  · rw [Peer.settle_kept (state ▸ notSelf) (state ▸ inside) (by simpa [trips] using low)]
    simp [goodRun, inside, state]

namespace State

/-! ## A good beacon at the peer table (R49, R56, R103) -/

/-- The state with the entry of p after an arrival, and MEMBERSHIP raised where its state has changed (R64). -/
def arrived (s : State) (p : Nat) (old new : Peer) : State :=
  { s with
    peers := s.peers.set p new
    port.alerts.membership := s.port.alerts.membership || old.state != new.state }

/-- Isolation moves the sync controller and the STATE flag alone (R91, R103). -/
theorem isolationCheck_eq (s : State) (old : PeerState) : s.isolationCheck old =
    { s with sync := (s.isolationCheck old).sync, port.alerts.state := (s.isolationCheck old).port.alerts.state } := by
  unfold isolationCheck
  split
  · rw [changeState_isolated]
  · rfl

theorem beaconNotice_peers (s : State) (p : Nat) (offer : Option Offer) : (s.beaconNotice p offer).peers = s.peers :=
  offSchedule_peers (beaconNotice_offSchedule s p offer)

/-- An arrival: the entry in its new state, the notice at the agreement logic, and isolation where the last MEMBER
was lost. Where the state of the entry has not changed, no MEMBER was (R49, R56, R64, R103). -/
theorem arrival_eq {s : State} {p : Nat} {e e' : Peer} {b : Beacon} {lead : Int} (entry : s.peers[p]? = some e)
    (notSelf : e.state ≠ .self) (stays : b.state ≠ .leaving)
    (after : e' = e.afterArrival s.port.config b lead s.windowEpoch (s.viewTest e b)) :
    s.arrival p lead b = ((s.arrived p e e').beaconNotice p e'.offer).isolationCheck e.state := by
  have held : s.peer p = some e := entry
  have inside : p < s.peers.length := (List.getElem?_eq_some_iff.1 entry).1
  unfold arrival
  rw [held]
  simp only [notSelf, stays, if_false, ← after]
  by_cases same : e.state = e'.state
  · have replaced : s.setPeer p e' = s.arrived p e e' := by
        simp [setPeer, arrived, same]
    rw [if_pos same, if_pos same, replaced, isolationCheck_kept]
    by_cases member : e.state = .member
    · refine .inr (.inr ⟨p, e', ?_, same ▸ member⟩)
      rw [beaconNotice_peers]
      simp [arrived, inside]
    · exact .inr (.inl member)
  · have replaced : (s.setPeer p e').raiseMembership = s.arrived p e e' := by
        simp [setPeer, arrived, raiseMembership, same]
    rw [if_neg same, if_neg same, replaced]

/-- A notice without an offer evaluates the arming of every PENDING entry (R151). -/
theorem beaconNotice_none (s : State) (p : Nat) : s.beaconNotice p none = s.evaluateArming := rfl

theorem viewTest_eq_true (s : State) (e : Peer) (b : Beacon) : s.viewTest e b = true ↔
    s.sync.state = .track ∧ 8 ≤ s.link.completeRun ∧ e.state = .member ∧ b.state = .track ∧
      inSet b.view (ownNumber s.straps) = false := by
  simp [viewTest, own, and_assoc]

end State

/-- The first good beacon of its sender in the window epoch is an arrival with its lead (R16). -/
theorem State.deliverGood_first {s : State} {b : Beacon} (unheard : inSet s.link.heard b.sender = false) (mark : Int) :
    s.deliverGood b mark = ({ s with link.heard := addTo s.link.heard b.sender } : State).arrival b.sender
      (leadOf s.straps s.windowEpoch b.sender mark) b :=
  if_neg (by simp [unheard])

/-- Settles O32: the first good beacon of its sender is one `arrival`. -/
theorem goodBeaconIsAnArrival : Obligations.GoodBeaconIsAnArrival := by
  intro s bits r b e n lead running transmits valid reception crc beacon other mark n_eq epoch unheard entry notSelf
    stays lead_eq
  subst n_eq
  have inside := (State.markInInterval_iff valid).1 mark
  obtain ⟨v, hv⟩ : ∃ v : State, v = { s with
      link.reception := none, link.idleIn := idleAfter bits false, link.heard := addTo s.link.heard b.sender } :=
    ⟨_, rfl⟩
  obtain ⟨e', after⟩ : ∃ e', e' = e.afterArrival s.port.config b lead s.windowEpoch (s.viewTest e b) := ⟨_, rfl⟩
  have row : exec (.frameEnd bits false) s
      = .next (((v.arrived b.sender e e').beaconNotice b.sender e'.offer).isolationCheck e.state) := by
    have delivered := State.judgeFrame_good (s := s.frameEnded (idleAfter bits false)) crc beacon other inside epoch
    have first : (s.frameEnded (idleAfter bits false)).deliverGood b r.correctedMark
        = v.arrival b.sender lead b := by
      rw [hv, lead_eq]
      exact State.deliverGood_first (s := s.frameEnded (idleAfter bits false)) unheard _
    have held : v.peers[b.sender]? = some e := by rw [hv]; exact entry
    have judged : e' = e.afterArrival v.port.config b lead v.windowEpoch (v.viewTest e b) := by rw [hv]; exact after
    rw [State.exec_frameEnd running, State.endFrame_transmitting reception transmits, delivered, first,
      State.arrival_eq held notSelf stays judged]
  obtain ⟨w, hw⟩ : ∃ w, w = (v.arrived b.sender e e').beaconNotice b.sender e'.offer := ⟨_, rfl⟩
  have off : w.offSchedule = (v.arrived b.sender e e').offSchedule := by rw [hw, State.beaconNotice_offSchedule]
  have beside : s.sameBeside w := by
    have start : s.sameBeside (v.arrived b.sender e e') := by rw [hv]; exact State.sameBeside_refl s
    rw [hw]
    exact State.sameBeside_trans start (State.beaconNotice_sameBeside _ _ _)
  have peers : w.peers = s.peers.set b.sender e' := by rw [State.offSchedule_peers off, hv]; rfl
  have sync : w.sync = s.sync := by rw [State.offSchedule_sync off, hv]; rfl
  have port := State.offSchedule_port off
  have isolation := State.isolationCheck_eq w e.state
  rw [row, ← hw]
  refine ⟨_, e', rfl, ?_⟩
  obtain ⟨t, ht⟩ : ∃ t, t = w.isolationCheck e.state := ⟨_, rfl⟩
  rw [← ht] at isolation ⊢
  have members : ∀ m, t.memberAt m ↔ w.memberAt m := fun m => by rw [isolation]; rfl
  refine ⟨?_, ?_, ?_, ?_, ?_, ?_, ?_, fun noOffer => ?_, ?_, ?_, fun kept => ?_, fun track member lost => ?_⟩
  · rw [isolation]; exact peers
  · rw [isolation]
    exact (State.offSchedule_link off).trans (by rw [hv]; rfl)
  · rw [isolation]
    exact (State.offSchedule_timebase off).trans (by rw [hv]; rfl)
  · rw [isolation]
    exact (State.offSchedule_correction off).trans (by rw [hv]; rfl)
  · rw [isolation]
    dsimp only
    rw [port, hv]
    rfl
  · rw [after]
    exact Peer.afterArrival_arrivesAs notSelf _ _ _ _ _
  · rw [after, Peer.afterArrival_view]
    simp only [State.viewTest_eq_true]
  · have offer : e'.offer = none := by
      obtain ⟨-, -, -, -, -, -, offer, -⟩ := Peer.afterArrival_arrivesAs notSelf s.port.config b lead s.windowEpoch
        (s.viewTest e b)
      rw [after, offer, noOffer]
      rfl
    have evaluated : w = (v.arrived b.sender e e').evaluateArming := by rw [hw, offer, State.beaconNotice_none]
    have alike : (v.arrived b.sender e e').agreesAlike { s with peers := s.peers.set b.sender e' } := by
      rw [hv]
      exact ⟨⟨⟨rfl, rfl, rfl⟩, rfl⟩, rfl⟩
    have same := (State.evaluateArming_agreesAlike alike).sameSchedule
    rw [← evaluated] at same
    rw [isolation]
    exact State.sameScheduleAs_of_state same _ _
  · rw [isolation]
    dsimp only
    rw [port, hv]
    rfl
  · rw [isolation]
    exact beside
  · rw [ht, State.isolationCheck_kept, sync]
    rw [sync]
    exact kept.imp_right (Or.imp_right fun ⟨m, hm⟩ => ⟨m, (members m).1 hm⟩)
  · rw [ht, State.isolationCheck_lost (by rw [sync, track]) member fun m hm => lost m ((members m).2 hm),
      State.changeState_isolated]
    exact ⟨rfl, rfl⟩

end Sys2Proof.Machine
end

section
/-!
An alignment: the epoch that a beacon names, the T that it brings, and the change to ACQUIRE (R6, R36 to R40).
-/
namespace Sys2Proof.Machine

/-! ## Epochs and the aligned T (R2, R36, R40) -/

/-- The resolved epoch has the low 32 bits given (R40). -/
theorem resolveEpoch_mod {v : Nat} (fits : v < 2 ^ 32) (r : Nat) : resolveEpoch v r % 2 ^ 32 = v := by
  unfold resolveEpoch
  simp only []
  split_ifs <;> omega

/-- An epoch with these low 32 bits is the nearest one to itself (R40). -/
theorem resolveEpoch_of_mod {v n : Nat} (low : n % 2 ^ 32 = v) : resolveEpoch v n = n := by
  unfold resolveEpoch
  simp only []
  split_ifs <;> omega

/-- What stands r ns into window j of epoch n lies in epoch n. -/
theorem epoch_of_window {straps : Straps} (valid : strapsValid straps = true) {n j r : Nat}
    (inEpoch : j < windows straps) (inWindow : r < windowLength straps) :
    (n * epochLength straps + j * windowLength straps + r) / epochLength straps = n := by
  obtain ⟨-, epoch, -⟩ := strapsValid_geometry valid
  obtain ⟨position, -, -⟩ := window_position (n := n) inEpoch inWindow
  rw [← epoch] at position
  have before : j * windowLength straps + r < epochLength straps := position ▸ Nat.mod_lt _ (epochLength_pos straps)
  rw [Nat.add_assoc, Nat.mul_comm, Nat.mul_add_div (epochLength_pos straps), Nat.div_eq_of_lt before, Nat.add_zero]

theorem addTo_empty (j : Nat) : addTo 0 j = 1#32 <<< j := BitVec.zero_or

theorem timeOf_of_lt {t : Nat} (fits : t < 2 ^ 64) : timeOf t = t := if_pos fits

namespace State

/-! ## An alignment (R6, R37, R38) -/

/-- The timebase and the link engine stand beside the schedule. -/
theorem offSchedule_with_timebase_link (s : State) (b : Timebase) (l : Link) :
    ({ s with timebase := b, link := l } : State).offSchedule = { s.offSchedule with timebase := b, link := l } := rfl

/-- An alignment beside the schedule: T and H set, residue and slew cleared, every window instant up to T settled and
the set of windows heard emptied (R6, R37). -/
theorem alignTime_offSchedule (s : State) (b : Nat) : (s.alignTime b).offSchedule = ({ s with
    timebase := { s.timebase with
      time := b, high := b, residue := 0, slewAmount := 0, slewBase := none, slewLeft := 0 }
    link := { s.link with seqMark := b, heard := 0 } } : State).offSchedule := by
  have reached := takeReached_offSchedule s
  unfold alignTime
  simp only []
  rw [jumpSchedule_offSchedule, offSchedule_with_timebase_link, offSchedule_with_timebase_link, reached,
    offSchedule_timebase reached, offSchedule_link reached]
  rfl

/-- A jump of the schedule does not look at the timebase or the link engine. -/
theorem jumpSchedule_with_timebase_link (s : State) (time : Timebase) (l : Link) (a b : Nat) :
    (({ s with timebase := time, link := l } : State).jumpSchedule a b).firesAlike (s.jumpSchedule a b) := by
  have base : ({ s with timebase := time, link := l } : State).firesAlike s := firesAlike_of rfl rfl rfl
  exact jumpSchedule_firesAlike base a b

/-- The schedule takes the jump of an alignment, after what T had reached (R38; log 8). -/
theorem alignTime_firesAlike (s : State) (b : Nat) :
    (s.alignTime b).firesAlike (s.takeReached.jumpSchedule s.now b) := by
  have now : s.takeReached.now = s.now := now_eq_of_timebase (offSchedule_timebase (takeReached_offSchedule s))
  unfold alignTime
  simp only []
  rw [now]
  exact jumpSchedule_with_timebase_link s.takeReached _ _ _ _

/-- Outside TRACK and HOLDOVER an offer is passed over, and arming evaluated (R148, R151). -/
theorem beaconNotice_passed_over {s : State} (outside : s.sync.state.agrees = false) (p : Nat) (offer : Option Offer) :
    s.beaconNotice p offer = s.evaluateArming := by
  cases offer with
  | none => rfl
  | some o =>
    have passed : s.takeOffer p o = s := by
      unfold takeOffer
      split
      · simp [outside]
      · rfl
    simp only [beaconNotice, passed]

/-- The state into which an alignment from LISTEN leads: ACQUIRE with cause ALIGNED (R98). -/
theorem changeState_aligned {s : State} (listening : s.sync.state = .listen) : s.changeState .acquire .aligned =
    { s with sync := s.sync.enter .acquire .aligned, port.alerts.state := true } := by
  rw [changeState_plain _ _ (by decide), enter_eq_of_stays _ (.inl (by rw [listening]; rfl))]
  simp [StationState.quiet, Link.enter]

theorem listenFrame_aligns {s : State} {bits : List Bool} {b : Beacon} (passes : crcPasses bits = true)
    (valid : validBeacon s.straps bits = some b) (other : b.sender ≠ ownNumber s.straps) (aligns : s.aligns b = true)
    (mark : Int) : s.listenFrame mark bits false = s.alignTo b mark bits := by
  obtain ⟨sender, -⟩ := validBeacon_fields valid
  have passes : framePasses bits false = true := (framePasses_iff _ _).2 ⟨rfl, passes⟩
  simp [listenFrame, passes, bearsOwnNumber, sender, other, valid, aligns]

end State

/-- Settles O35: the alignment, the change to ACQUIRE, and the same frame as an `arrival` with its mark on its send
instant. -/
theorem aligningBeaconSetsTime : Obligations.AligningBeaconSetsTime := by
  intro s bits r b e n since running listening valid reception crc beacon other stays source n_eq since_eq since_lt
    entry
    notSelf new new_eq fits
  obtain ⟨-, epochFits, inEpoch⟩ := validBeacon_fields beacon
  obtain ⟨-, -, window, guard, -⟩ := strapsValid_geometry valid
  obtain ⟨u, hu⟩ : ∃ u, u = s.frameEnded (idleAfter bits false) := ⟨_, rfl⟩
  obtain ⟨a, ha⟩ : ∃ a, a = u.alignTime new := ⟨_, rfl⟩
  have off : a.offSchedule = _ := (congrArg State.offSchedule ha).trans (State.alignTime_offSchedule u new)
  have jumped : a.firesAlike (s.takeReached.jumpSchedule s.now new) := by
    have reached : u.takeReached.firesAlike s.takeReached := by
      rw [hu]
      exact State.takeReached_firesAlike rfl (State.firesAlike_of rfl rfl rfl)
    have aligned := State.alignTime_firesAlike u new
    rw [show u.now = s.now by rw [hu]; rfl, ← ha] at aligned
    exact aligned.trans (State.jumpSchedule_firesAlike reached s.now new)
  have straps : a.straps = s.straps := (State.offSchedule_straps off).trans (by rw [hu]; rfl)
  have aTimebase : a.timebase = { s.timebase with
      time := new, high := new, residue := 0, slewAmount := 0, slewBase := none, slewLeft := 0 } :=
    (State.offSchedule_timebase off).trans (by rw [hu]; rfl)
  have aLink : a.link = { s.link with
      reception := none, idleIn := idleAfter bits false, seqMark := new, heard := 0 } :=
    (State.offSchedule_link off).trans (by rw [hu]; rfl)
  have aSync : a.sync = s.sync := (State.offSchedule_sync off).trans (by rw [hu]; rfl)
  have aPeers : a.peers = s.peers := (State.offSchedule_peers off).trans (by rw [hu]; rfl)
  have aPort : a.port = { s.port with alerts.overflow := a.port.alerts.overflow } :=
    (State.offSchedule_port off).trans (by rw [hu]; rfl)
  have aConfig : a.port.config = s.port.config := by rw [aPort]
  obtain ⟨v, hv⟩ : ∃ v : State, v = { a with
      sync := s.sync.enter .acquire .aligned, port.alerts.state := true, link.heard := addTo 0 b.sender } := ⟨_, rfl⟩
  have vEpoch : v.windowEpoch = n := by
    have high : v.windowEpoch = new / epochLength s.straps := by
      rw [hv]
      show a.timebase.high / epochLength a.straps = _
      rw [aTimebase, straps]
    rw [high, new_eq, Nat.add_assoc, epoch_of_window valid inEpoch (by omega)]
  obtain ⟨e', after⟩ : ∃ e', e' = e.afterArrival s.port.config b 0 n false := ⟨_, rfl⟩
  have row : exec (.frameEnd bits false) s = .next ((v.arrived b.sender e e').evaluateArming) := by
    have alignsHere : u.aligns b = true := by
      rw [hu]
      show (b.state != .leaving && (s.sync.alignSources == 0 || inSet s.sync.alignSources b.sender)) = true
      rcases source with anySource | inSources
      · simp [stays, anySource]
      · simp [stays, inSources]
    have value : u.alignedTime b r.correctedMark = new := by
      have sum : ((sendInstant s.straps n b.sender : Nat) + ((s.now : Int) - r.correctedMark)).toNat = new := by
        unfold sendInstant
        omega
      rw [State.alignedTime, show resolveEpoch b.epoch u.windowEpoch = n by rw [n_eq, hu]; rfl]
      rw [show u.straps = s.straps by rw [hu]; rfl, show u.now = s.now by rw [hu]; rfl, sum, timeOf_of_lt fits]
    obtain ⟨c, hc⟩ : ∃ c : State, c = { a with sync := s.sync.enter .acquire .aligned, port.alerts.state := true } :=
      ⟨_, rfl⟩
    have changed : a.changeState .acquire .aligned = c := by
      rw [State.changeState_aligned (by rw [aSync, listening]), aSync, hc]
    have carried : r.correctedMark + ((new : Int) - (s.now : Int)) = (sendInstant s.straps n b.sender : Nat) := by
      unfold sendInstant
      omega
    have cStraps : c.straps = s.straps := by rw [hc]; exact straps
    have cEpoch : c.windowEpoch = n := by rw [← vEpoch, hc, hv]; rfl
    have inside : intervalHolding s.straps n (sendInstant s.straps n b.sender : Nat) = some b.sender :=
      (intervalHolding_iff valid).2 ⟨inEpoch, by unfold sendInstant; omega, by unfold sendInstant; omega⟩
    have delivered : c.judgeFrame (sendInstant s.straps n b.sender : Nat) bits false = c.deliverGood b _ :=
      State.judgeFrame_good crc (cStraps.symm ▸ beacon) (cStraps.symm ▸ other)
        (by rw [cStraps, cEpoch]; exact inside)
        (by rw [cEpoch, n_eq]; exact resolveEpoch_of_mod (resolveEpoch_mod epochFits _))
    have heard : c.link.heard = 0 := by rw [hc]; exact congrArg Link.heard aLink
    have first : c.deliverGood b (sendInstant s.straps n b.sender : Nat) = v.arrival b.sender 0 b := by
      rw [State.deliverGood_first (by rw [heard]; simp [inSet]), heard, cStraps, cEpoch, leadOf, Int.sub_self, hc, hv]
    have held : v.peers[b.sender]? = some e := by rw [hv]; exact aPeers ▸ entry
    have judged : e' = e.afterArrival v.port.config b 0 v.windowEpoch (v.viewTest e b) := by
      have view : v.viewTest e b = false := by rw [hv]; rfl
      have config : v.port.config = s.port.config := by rw [hv]; exact aConfig
      rw [after, view, config, vEpoch]
    have acquire : (v.arrived b.sender e e').evaluateArming.sync.state = .acquire := by
      rw [State.evaluateArming_sync, hv]; rfl
    rw [State.exec_frameEnd running, State.endFrame_listen reception listening, ← hu,
      State.listenFrame_aligns (s := u) crc (by rw [hu]; exact beacon) (by rw [hu]; exact other) alignsHere,
      State.alignTo, value, ← ha, changed, show (u.now : Int) = s.now by rw [hu]; rfl, carried, delivered, first,
      State.arrival_eq held notSelf stays judged, State.beaconNotice_passed_over (by rw [hv]; rfl),
      State.isolationCheck_kept (.inl (by rw [acquire]; decide))]
  have evaluated := State.evaluateArming_offSchedule (v.arrived b.sender e e')
  obtain ⟨w, hw⟩ : ∃ w, w = v.arrived b.sender e e' := ⟨_, rfl⟩
  have alike : w.agreesAlike { s.takeReached.jumpSchedule s.now new with peers := s.peers.set b.sender e' } := by
    have straps' := jumped.2
    rw [hw, hv]
    exact ⟨⟨jumped.1, straps'⟩, congrArg (·.set b.sender e') aPeers⟩
  have same := (State.evaluateArming_agreesAlike alike).sameSchedule
  obtain ⟨-, -, -, -, -, tag, -⟩ := State.evaluateArming_sameBeside w
  obtain ⟨t, ht⟩ : ∃ t, t = w.evaluateArming := ⟨_, rfl⟩
  rw [row, ← hw, ← ht]
  rw [← hw, ← ht] at evaluated
  rw [← ht] at same tag
  have port := State.offSchedule_port evaluated
  have arrives := Peer.afterArrival_arrivesAs notSelf s.port.config b 0 n false
  have viewDown := Peer.afterArrival_view e s.port.config b 0 n false
  rw [← after] at arrives viewDown
  have wFields : w.timebase = a.timebase ∧ w.sync = s.sync.enter .acquire .aligned ∧
      w.link = { a.link with heard := addTo 0 b.sender } ∧ w.peers = a.peers.set b.sender e' ∧
      w.correction = a.correction ∧ w.capture = a.capture ∧ w.schedule = a.schedule ∧ w.pending = a.pending ∧
      w.port = { a.port with
        alerts.state := true
        alerts.membership := a.port.alerts.membership || e.state != e'.state } := by
    rw [hw, hv]
    exact ⟨rfl, rfl, rfl, rfl, rfl, rfl, rfl, rfl, rfl⟩
  obtain ⟨wTimebase, wSync, wLink, wPeers, wCorrection, wCapture, wSchedule, wPending, wPort⟩ := wFields
  refine ⟨t, e', rfl, ?_, ?_, ?_, ?_, arrives, by simpa using viewDown, ?_, ?_, ?_, ?_, ?_, ?_, ?_, ?_, ?_, ?_, same⟩
  · rw [State.offSchedule_timebase evaluated, wTimebase, aTimebase]
  · rw [State.offSchedule_sync evaluated, wSync]
    rfl
  · rw [State.offSchedule_link evaluated, wLink, aLink, addTo_empty]
  · rw [State.offSchedule_peers evaluated, wPeers, aPeers]
  · rw [port, wPort, aPort]
  · rw [port, wPort]
  · rw [port, wPort, aPort]
  · rw [port, wPort, aPort]
  · rw [port, wPort, aPort]
  · rw [State.offSchedule_correction evaluated, wCorrection, State.offSchedule_correction off, hu]
    rfl
  · rw [State.offSchedule_cap0 evaluated, wCapture, State.offSchedule_cap0 off, hu]
    rfl
  · rw [State.offSchedule_cap1 evaluated, wCapture, State.offSchedule_cap1 off, hu]
    rfl
  · rw [tag, wSchedule, jumped.schedule, State.jumpSchedule_tagCounter, State.takeReached_tagCounter]
  · rw [State.offSchedule_pending evaluated, wPending, State.offSchedule_pending off, hu]
    rfl

end Sys2Proof.Machine
end

section
/-!
What the result of a correction does to the station, and what a step does to the link engine and the schedule
(R4, R34, R38, R100).
-/
namespace Sys2Proof.Machine
namespace State

/-! ## What a correction result does (R100) -/

/-- From s the station keeps its state, the sync controller's runs moved, or enters another one that is neither DORMANT
nor HALTED. -/
def keepsOrEnters (s t : State) : Prop :=
  (∃ y : Sync, y.state = s.sync.state ∧ t = { s with sync := y }) ∨
  ∃ (new : StationState) (cause : Cause) (z y : Sync), z.state = s.sync.state ∧ new ≠ .dormant ∧ new ≠ .halted ∧
    new ≠ s.sync.state ∧ y.state = new ∧ t = { ({ s with sync := z } : State).enter new cause with sync := y }

theorem keepsOrEnters_sync {s t : State} {y : Sync} (h : s.keepsOrEnters t) (state : y.state = t.sync.state) :
    s.keepsOrEnters { t with sync := y } := by
  obtain ⟨x, hx, rfl⟩ | ⟨new, cause, z, x, hz, dormant, halted, other, hx, rfl⟩ := h
  · exact .inl ⟨y, state.trans hx, rfl⟩
  · exact .inr ⟨new, cause, z, y, hz, dormant, halted, other, state.trans hx, rfl⟩

theorem changeState_keepsOrEnters {s : State} {z : Sync} (hz : z.state = s.sync.state) {new : StationState}
    (cause : Cause) (dormant : new ≠ .dormant) (halted : new ≠ .halted) (other : new ≠ s.sync.state) :
    s.keepsOrEnters (({ s with sync := z } : State).changeState new cause) := by
  rw [changeState_plain _ _ dormant]
  refine .inr ⟨new, cause, z, z.enter new cause, hz, dormant, halted, other, rfl, ?_⟩
  rw [← show (({ s with sync := z } : State).enter new cause).sync = z.enter new cause from enter_sync _ _ _]

theorem merge_keepsOrEnters {s : State} (transmits : s.sync.state.transmits = true) : s.keepsOrEnters s.merge := by
  have other : StationState.listen ≠ s.sync.state := fun same => by rw [← same] at transmits; cases transmits
  exact keepsOrEnters_sync (t := s.changeState .listen .merge)
    (changeState_keepsOrEnters (z := s.sync) rfl .merge (by decide) (by decide) other) rfl

theorem advanceRuns_keepsOrEnters (s : State) (c : Int) (action : Action) :
    s.keepsOrEnters (s.advanceRuns c action) := by
  have counted : ∀ y : Sync, y.state = s.sync.state → s.keepsOrEnters { s with sync := y } :=
    fun y hy => .inl ⟨y, hy, rfl⟩
  unfold advanceRuns
  split
  case h_1 state =>
    exact iteInduction (fun _ => changeState_keepsOrEnters (by rfl) _ (by decide) (by decide) (by simp [state]))
      fun _ => counted _ rfl
  case h_2 state =>
    exact iteInduction (fun _ => changeState_keepsOrEnters (by rfl) _ (by decide) (by decide) (by simp [state]))
      fun _ => counted _ rfl
  case h_3 state =>
    exact iteInduction (fun _ => changeState_keepsOrEnters (by rfl) _ (by decide) (by decide) (by simp [state]))
      fun _ => iteInduction
        (fun _ => changeState_keepsOrEnters (by rfl) _ (by decide) (by decide) (by simp [state]))
        fun _ => counted _ rfl
  all_goals exact counted _ rfl

theorem handleResult_keepsOrEnters {s : State} (transmits : s.sync.state.transmits = true) (c : Int)
    (action : Action) : s.keepsOrEnters (s.handleResult c action) := by
  unfold handleResult
  simp only []
  split
  · exact keepsOrEnters_sync (merge_keepsOrEnters transmits) rfl
  · exact keepsOrEnters_sync (advanceRuns_keepsOrEnters s c action) rfl

/-- What such a change leaves of the blocks: the timebase, the correction unit and all of the port but the alert flags;
outside LISTEN the peer table and the link engine too; from ACQUIRE, or without a change, the schedule too (R25, R26,
R65, R91). -/
theorem keepsOrEnters_effect {s t : State} (h : s.keepsOrEnters t) :
    t.timebase = s.timebase ∧ t.correction = s.correction ∧ t.port = { s.port with alerts := t.port.alerts } ∧
    s.sameBeside t ∧ (t.sync.state ≠ .listen → t.peers = s.peers ∧ t.link = s.link) ∧
    (t.peers = s.peers ∨ t.peers = s.peers.map Peer.cleared) ∧
    (t.link = s.link ∨ t.link = { s.link with overdriveRun := 0, completeRun := 0 }) ∧
    (s.sync.state = .acquire ∨ t.sync.state = s.sync.state → t.sameScheduleAs s) := by
  obtain ⟨y, hy, rfl⟩ | ⟨new, cause, z, y, hz, dormant, halted, other, rfl, rfl⟩ := h
  · exact ⟨rfl, rfl, rfl, sameBeside_refl s, fun _ => ⟨rfl, rfl⟩, .inl rfl, .inl rfl, fun _ => ⟨rfl, rfl, rfl⟩⟩
  · obtain ⟨u, hu⟩ : ∃ u : State, u = { s with sync := z } := ⟨_, rfl⟩
    obtain ⟨left, before⟩ : ∃ left, left = u.leftFor y.state := ⟨_, rfl⟩
    have off : left.offSchedule = u.offSchedule := before ▸ leftFor_offSchedule u y.state
    have beside : s.sameBeside left := by
      have start : s.sameBeside u := by rw [hu]; exact sameBeside_refl s
      rw [before]
      exact sameBeside_trans start (leftFor_sameBeside u y.state)
    have port : left.port = { s.port with alerts.overflow := left.port.alerts.overflow } := by
      rw [offSchedule_port off, hu]
    have link : u.link.enter y.state = s.link ∨
        (y.state = .listen ∧ u.link.enter y.state = { s.link with overdriveRun := 0, completeRun := 0 }) := by
      rw [hu]
      revert dormant halted
      cases y.state <;> simp [Link.enter]
    rw [← hu, enter_eq cause before]
    refine ⟨?_, ?_, ?_, beside, fun outside => ⟨?_, ?_⟩, ?_, ?_, fun plain => ?_⟩
    · exact (offSchedule_timebase off).trans (by rw [hu])
    · exact (offSchedule_correction off).trans (by rw [hu])
    · dsimp only
      rw [port]
    · have loud : y.state.quiet = false := by
        revert dormant halted outside
        cases y.state <;> simp [StationState.quiet]
      dsimp only
      rw [loud, hu]
      rfl
    · exact link.resolve_right fun h => outside h.1
    · dsimp only
      rw [hu]
      cases y.state.quiet
      · exact .inl rfl
      · exact .inr rfl
    · exact link.imp_right And.right
    · obtain acquire | same := plain
      · have stays : left = u := before.trans (leftFor_stays (.inl (by rw [hu]; exact hz.trans acquire ▸ rfl)))
        rw [stays, hu]
        exact ⟨rfl, rfl, rfl⟩
      · exact absurd same other

/-! ## A step (R4, R34, R38) -/

/-- The link engine at the notice of a step from a to b: a forward one settles the window instants that it passes, and
an own send instant among them sets the complete-beacon run to 0 (R4, R5, R26). -/
def steppedLink (s : State) (a b : Nat) : Link :=
  if a < b then
    { s.link with
      seqMark := max s.link.seqMark b
      completeRun := if s.ownSendPassed a b then 0 else s.link.completeRun }
  else s.link

theorem steppedLink_back {s : State} {a b : Nat} (back : b ≤ a) : s.steppedLink a b = s.link :=
  if_neg (by omega)

theorem steppedLink_forward {s : State} {a b : Nat} (taken : s.link.seqMark = a) (forward : a < b) :
    s.steppedLink a b = { s.link with
      seqMark := b, completeRun := if s.ownSendPassed a b then 0 else s.link.completeRun } := by
  rw [steppedLink, if_pos forward, taken, Nat.max_eq_right forward.le]

theorem noticeStep_eq (s : State) (a b : Nat) :
    s.noticeStep a b = ({ s with link := s.steppedLink a b } : State).jumpSchedule a b := by
  unfold noticeStep steppedLink
  simp only []
  by_cases forward : a < b
  · rw [if_pos forward, if_pos forward]
  · rw [if_neg forward, if_neg forward]

/-- The timebase after a step of c to b (R34). -/
def steppedTimebase (tb : Timebase) (c : Int) (b : Nat) : Timebase :=
  { tb with time := b, residue := 0, high := if 0 < c then b else tb.high }

/-- The notice looks at the straps and the link engine alone. -/
theorem steppedLink_congr {t u : State} (straps : t.port.straps = u.port.straps) (link : t.link = u.link) (a b : Nat) :
    t.steppedLink a b = u.steppedLink a b := by
  unfold steppedLink ownSendPassed own State.straps
  rw [straps, link]

/-- A step: what T had reached is taken, T, H and the residue set, and the notice given (R34, R38; log 8). -/
theorem stepTime_eq (s : State) (c : Int) {b : Nat} (reaches : b = timeOf (s.now + c).toNat) : s.stepTime c =
    ({ s.takeReached with
      timebase := steppedTimebase s.timebase c b, link := s.steppedLink s.now b } : State).jumpSchedule s.now b := by
  have off := takeReached_offSchedule s
  have unfolded : s.stepTime c = ({ s.takeReached with
      timebase := steppedTimebase s.takeReached.timebase c (timeOf (s.takeReached.now + c).toNat) } :
      State).noticeStep s.takeReached.now (timeOf (s.takeReached.now + c).toNat) := rfl
  rw [unfolded]
  generalize s.takeReached = u at off
  have timebase := offSchedule_timebase off
  have link := steppedLink_congr (t := { u with timebase := steppedTimebase s.timebase c b }) (u := s)
    (offSchedule_straps off :) (offSchedule_link off :) s.now b
  rw [now_eq_of_timebase timebase, ← reaches, timebase, noticeStep_eq, link]

/-- A step beside the schedule (R4, R34). -/
theorem stepTime_offSchedule (s : State) (c : Int) {b : Nat} (reaches : b = timeOf (s.now + c).toNat) :
    (s.stepTime c).offSchedule
      = ({ s with timebase := steppedTimebase s.timebase c b, link := s.steppedLink s.now b } : State).offSchedule := by
  rw [stepTime_eq s c reaches, jumpSchedule_offSchedule, offSchedule_with_timebase_link,
    offSchedule_with_timebase_link, takeReached_offSchedule]
  rfl

/-- The schedule takes the jump of a step, after what T had reached (R38; log 8). -/
theorem stepTime_firesAlike (s : State) (c : Int) {b : Nat} (reaches : b = timeOf (s.now + c).toNat) :
    (s.stepTime c).firesAlike (s.takeReached.jumpSchedule s.now b) := by
  rw [stepTime_eq s c reaches]
  exact jumpSchedule_with_timebase_link s.takeReached _ _ _ _

/-- An action of a close, whatever it is, leaves the set of windows heard, the capture inputs and the tag counter, and
all that no jump touches (R69). -/
theorem applyAction_frame (s : State) (d : Decision) :
    (s.applyAction d).sync = s.sync ∧ (s.applyAction d).peers = s.peers ∧
    (s.applyAction d).correction = s.correction ∧
    (s.applyAction d).port = { s.port with alerts.overflow := (s.applyAction d).port.alerts.overflow } ∧
    (s.applyAction d).link.heard = s.link.heard ∧ (s.applyAction d).capture.cap0 = s.capture.cap0 ∧
    (s.applyAction d).capture.cap1 = s.capture.cap1 ∧
    (s.applyAction d).schedule.tagCounter = s.schedule.tagCounter := by
  unfold applyAction
  split
  · have off := stepTime_offSchedule s d.correction rfl
    have heard : ∀ b, (s.steppedLink s.now b).heard = s.link.heard := by
      intro b
      unfold steppedLink
      split <;> rfl
    refine ⟨(offSchedule_sync off :), (offSchedule_peers off :), (offSchedule_correction off :),
      (offSchedule_port off :),
      (congrArg Link.heard (offSchedule_link off)).trans (heard _), (offSchedule_cap0 off :), (offSchedule_cap1 off :),
      ?_⟩
    rw [(stepTime_firesAlike s d.correction rfl).schedule, jumpSchedule_tagCounter, takeReached_tagCounter]
  · exact ⟨rfl, rfl, rfl, rfl, rfl, rfl, rfl, rfl⟩
  · exact ⟨rfl, rfl, rfl, rfl, rfl, rfl, rfl, rfl⟩

/-- The record and the flags of a close (R82, R83, R87). -/
theorem writeLog_recordFlags_eq (s : State) (f : CorrFlags) (r : LogRecord) : (s.recordFlags f).writeLog r =
    { s with
      correction := { sticky := s.correction.sticky.union f, log := (r :: s.correction.log).take 16 }
      port.alerts.correction := s.port.alerts.correction || (f.inter s.port.enables).any } := by
  unfold recordFlags
  cases (f.inter s.port.enables).any <;> simp [raiseCorrection, writeLog]

end State

/-- Only in ACQUIRE does a close step (R74). -/
theorem acquire_of_step {config : ConfigStore} {state : StationState} {trim : Int} {leads : List Int}
    (step : (decideCorrection config state trim leads).action = .step) : state = .acquire := by
  have action : actionOf state config.stepThreshold (decideCorrection config state trim leads).correction = .step :=
    step
  revert action
  cases state <;> simp [actionOf]

/-- An own send instant passed by a forward jump from an epoch close to less than an epoch later is the one of the epoch
just reached (R4). -/
theorem State.ownSendPassed_iff {s : State} (valid : strapsValid s.straps = true) {a b : Nat}
    (atClose : ∃ n, a = (n + 1) * epochLength s.straps)
    (forward : a < b) (near : b < a + epochLength s.straps) : s.ownSendPassed a b = true ↔
      ∃ m, a < m * epochLength s.straps + ownNumber s.straps * windowLength s.straps + guardTime s.straps ∧
        m * epochLength s.straps + ownNumber s.straps * windowLength s.straps + guardTime s.straps ≤ b := by
  obtain ⟨⟨w, count⟩, epoch, window, guard, -, -, number⟩ := strapsValid_geometry valid
  obtain ⟨n, rfl⟩ := atClose
  have inside : ownNumber s.straps * windowLength s.straps + guardTime s.straps < epochLength s.straps := by
    obtain ⟨position, -, -⟩ := window_position (n := 0) number (by omega : guardTime s.straps < windowLength s.straps)
    rw [← epoch, Nat.zero_mul, Nat.zero_add] at position
    exact position ▸ Nat.mod_lt _ (epochLength_pos s.straps)
  have reached : epochOf s.straps b = n + 1 := by
    unfold epochOf
    rw [Nat.div_eq_iff (epochLength_pos s.straps)]
    constructor
    · omega
    · have := Nat.succ_mul (n + 1) (epochLength s.straps)
      omega
  have passes : s.ownSendPassed ((n + 1) * epochLength s.straps) b = true ↔
      sendInstant s.straps (n + 1) s.own ≤ b := by
    simp only [ownSendPassed, count, reached, Option.isSome_some, Bool.true_and, decide_eq_true_eq]
    unfold sendInstant
    omega
  rw [passes]
  unfold sendInstant
  constructor
  · exact fun h => ⟨n + 1, by omega, h⟩
  · rintro ⟨m, after, before⟩
    have low : n + 1 ≤ m := by
      by_contra less
      have := Nat.mul_le_mul_right (epochLength s.straps) (by omega : m + 1 ≤ n + 1)
      rw [Nat.add_mul, Nat.one_mul] at this
      omega
    have := Nat.mul_le_mul_right (epochLength s.straps) low
    show (n + 1) * epochLength s.straps + ownNumber s.straps * windowLength s.straps + guardTime s.straps ≤ b
    omega

end Sys2Proof.Machine
end

section
/-!
The correction at an epoch close (R69).
-/
namespace Sys2Proof.Machine

/-- The clearing of a table without current leads brings none (R65). -/
theorem Peer.cleared_currentLead {e : Peer} (noLead : e.currentLead = none) :
    e.cleared.currentLead = none := by
  cases state : e.state <;> simp [Peer.cleared, state, Peer.fresh, noLead]

/-- An epoch close that makes a correction: the set of windows heard emptied, every current lead gone, the action
handed to the timebase, flags and record written, and the result handled (R69). -/
theorem State.takeEpochClose_corrects {s x p : State} {d : Decision} (stands : s.atEpochClose)
    (transmits : s.transmitting = true)
    (decides : d = decideCorrection s.port.config s.sync.state s.timebase.trim
      (s.peers.filterMap (fun e => if e.state = .member then e.currentLead else none)))
    (cleared : x = { s with
      link.seqMark := s.now, link.heard := 0, peers := s.peers.map (fun e => { e with currentLead := none }) })
    (recorded : p = ((x.applyAction d).recordFlags d.flags).writeLog
      (State.logRecord (s.now / epochLength s.straps - 1) s.sync.state d)) :
    s.takeEpochClose = p.handleResult d.correction d.action := by
  have decision : ({ s.markTaken with link.heard := 0 } : State).decision = d := decides.symm
  rw [takeEpochClose, if_pos (atEpochClose.untaken stands), if_pos transmits, correct, decision, recorded, cleared]
  rfl

/-- The step that a close at T makes from x, which differs from s beside the timebase and the schedule, to b. -/
theorem State.closeStep {s x : State} {c : Int} {b : Nat} (timebase : x.timebase = s.timebase)
    (alike : x.firesAlike s) (reaches : (b : Int) = s.now + c) (fits : b < 2 ^ 64) :
    (x.stepTime c).timebase = steppedTimebase s.timebase c b ∧ (x.stepTime c).link = x.steppedLink s.now b ∧
    (x.stepTime c).sameScheduleAs (s.takeReached.jumpSchedule s.now b) := by
  have now : x.now = s.now := now_eq_of_timebase timebase
  have reached : b = timeOf (x.now + c).toNat := by
    rw [now, ← reaches, Int.toNat_natCast, timeOf_of_lt fits]
  have off := stepTime_offSchedule x c reached
  rw [now] at off
  have fires := stepTime_firesAlike x c reached
  rw [now] at fires
  exact ⟨(offSchedule_timebase off).trans (by rw [timebase]), (offSchedule_link off :),
    (fires.trans (jumpSchedule_firesAlike (takeReached_firesAlike now alike) s.now b)).1⟩

/-- Settles O39: the close, then the handling of its result, each by what it leaves of the blocks; at a step the link
engine and the schedule follow `closeStep`. -/
theorem epochCloseMakesOneCorrection : Obligations.EpochCloseMakesOneCorrection := by
  intro s running stands
  have row : exec .epochClose s = .next s.takeEpochClose :=
    congrArg Host.Outcome.next (if_pos (State.running_of_not_starting running))
  rw [row]
  refine ⟨fun silent => ?_, fun transmits d decides => ⟨_, rfl, ?_⟩⟩
  · rw [State.takeEpochClose, if_pos (State.atEpochClose.untaken stands), if_neg (by simpa using silent)]
    rfl
  obtain ⟨x, hx⟩ : ∃ x : State, x = { s with
      link.seqMark := s.now, link.heard := 0, peers := s.peers.map (fun e => { e with currentLead := none }) } :=
    ⟨_, rfl⟩
  obtain ⟨a, ha⟩ : ∃ a, a = x.applyAction d := ⟨_, rfl⟩
  obtain ⟨p, hp⟩ : ∃ p : State, p = (a.recordFlags d.flags).writeLog
    (State.logRecord (s.now / epochLength s.straps - 1) s.sync.state d) := ⟨_, rfl⟩
  rw [State.takeEpochClose_corrects stands transmits decides hx (ha ▸ hp)]
  obtain ⟨aSync, aPeers, aCorrection, aPort, aHeard, aCap0, aCap1, aTag⟩ := State.applyAction_frame x d
  rw [← ha] at aSync aPeers aCorrection aPort aHeard aCap0 aCap1 aTag
  rw [State.writeLog_recordFlags_eq] at hp
  have pState : p.sync.state = s.sync.state := by rw [hp]; exact (congrArg Sync.state aSync).trans (by rw [hx])
  have moved : p.keepsOrEnters (p.handleResult d.correction d.action) :=
    State.handleResult_keepsOrEnters (by rw [pState]; exact transmits) _ _
  have foreign : (p.handleResult d.correction d.action).sync.foreign = 0 := rfl
  generalize p.handleResult d.correction d.action = t at moved foreign
  obtain ⟨tTimebase, tCorrection, tPort, beside, outside, tPeers, tLink, tSchedule⟩ := State.keepsOrEnters_effect moved
  obtain ⟨cap0, cap1, queue, lines, declined, tag, correction⟩ := beside
  have sPort : a.port = { s.port with alerts.overflow := a.port.alerts.overflow } := aPort.trans (by rw [hx])
  have pPeers : p.peers = s.peers.map (fun e => { e with currentLead := none }) := by
    rw [hp]; exact aPeers.trans (by rw [hx])
  have pLink : p.link = a.link := by rw [hp]
  have noLead : ∀ e ∈ p.peers, e.currentLead = none := by
    intro e he
    rw [pPeers] at he
    obtain ⟨e₀, -, rfl⟩ := List.mem_map.1 he
    rfl
  have pBeside : p.timebase = a.timebase ∧ p.schedule = a.schedule ∧ p.capture = a.capture := by
    rw [hp]; exact ⟨rfl, rfl, rfl⟩
  obtain ⟨pTimebase, pSchedule, pCapture⟩ := pBeside
  have plain : d.action ≠ .step → a.schedule = s.schedule ∧ a.capture = s.capture ∧
      a.link = { s.link with seqMark := s.now, heard := 0 } := by
    intro noStep
    rw [ha, State.applyAction]
    split
    · exact absurd ‹_› noStep
    · rw [hx]; exact ⟨rfl, rfl, rfl⟩
    · rw [hx]; exact ⟨rfl, rfl, rfl⟩
  have stepped : d.action = .step → ∀ b : Nat, (b : Int) = s.now + d.correction → b < 2 ^ 64 →
      a.timebase = State.steppedTimebase s.timebase d.correction b ∧ a.link = x.steppedLink s.now b ∧
      a.sameScheduleAs (s.takeReached.jumpSchedule s.now b) := by
    intro step b reaches fits
    have action : a = x.stepTime d.correction := by rw [ha, State.applyAction, step]
    rw [action]
    exact State.closeStep (by rw [hx]) (State.firesAlike_of (by rw [hx]) (by rw [hx]; rfl) (by rw [hx])) reaches fits
  refine ⟨?_, ?_, ?_, ?_, foreign, ?_, fun idle => ?_, fun slew => ?_, fun step b reaches fits => ?_, ?_, ?_, ?_, ?_,
    fun loud => (outside loud).1.trans pPeers, fun loud noStep => ?_, fun noStep => ?_, fun noStep same => ?_,
    fun step b reaches fits => ?_⟩
  · rw [tCorrection, hp, aCorrection, hx]
    rfl
  · rw [tCorrection, hp, aCorrection, hx]
    rfl
  · rw [correction, hp, sPort]
    simp only [CorrFlags.any, CorrFlags.inter, Bool.or_assoc]
  · have heard : p.link.heard = 0 := by rw [pLink, aHeard, hx]
    rcases tLink with link | link
    · rw [link, heard]
    · rw [link]; exact heard
  · intro e he
    rcases tPeers with peers | peers
    · exact noLead e (peers ▸ he)
    · rw [peers] at he
      obtain ⟨e₀, he₀, rfl⟩ := List.mem_map.1 he
      exact Peer.cleared_currentLead (noLead e₀ he₀)
  · rw [tTimebase, pTimebase, ha, State.applyAction, idle, hx]
  · rw [tTimebase, pTimebase, ha, State.applyAction, slew, hx]
    rfl
  · rw [tTimebase, pTimebase, (stepped step b reaches fits).1]
    rfl
  · rw [tPort, hp, sPort]
  · rw [cap0, pCapture, aCap0, hx]
  · rw [cap1, pCapture, aCap1, hx]
  · rw [tag, pSchedule, aTag, hx]
  · rw [(outside loud).2, pLink, (plain noStep).2.2]
  · obtain ⟨schedule, capture, -⟩ := plain noStep
    rw [pCapture, capture] at queue
    exact ⟨queue, by rw [lines, pSchedule, schedule], by rw [declined, pSchedule, schedule]⟩
  · obtain ⟨schedule, capture, -⟩ := plain noStep
    obtain ⟨schedules, tCapture, -⟩ := tSchedule (.inr (same.trans pState.symm))
    exact ⟨by rw [schedules, pSchedule, schedule], by rw [tCapture, pCapture, capture]⟩
  · obtain ⟨-, link, same⟩ := stepped step b reaches fits
    obtain ⟨sameSchedule, sameCapture, sameOverflow⟩ := same
    obtain ⟨schedule, capture, overflow⟩ := tSchedule (.inl (pState.trans (acquire_of_step (decides ▸ step))))
    have pOverflow : p.port.alerts.overflow = a.port.alerts.overflow := by rw [hp]
    refine ⟨⟨?_, ?_, ?_⟩, fun back loud => ?_, fun forward valid near passed iff => ?_⟩
    · rw [schedule, pSchedule, sameSchedule]
    · rw [capture, pCapture, sameCapture]
    · rw [overflow, pOverflow, sameOverflow]
    · rw [(outside loud).2, pLink, link, State.steppedLink_back (by omega), hx]
    have less : s.now < b := by omega
    have passes : x.ownSendPassed s.now b = true ↔ passed := by
      have straps : x.straps = s.straps := by rw [hx]
      have atClose : ∃ n, s.now = (n + 1) * epochLength x.straps := by
        obtain ⟨n, hn, -⟩ := stands
        exact ⟨n, straps ▸ hn⟩
      rw [iff, State.ownSendPassed_iff (straps ▸ valid) atClose less (straps ▸ near), straps]
    have aLink : a.link = { s.link with
        seqMark := b, heard := 0, completeRun := if x.ownSendPassed s.now b then 0 else s.link.completeRun } := by
      rw [link, State.steppedLink_forward (by rw [hx]) less]
      generalize x.ownSendPassed s.now b = own
      rw [hx]
    rw [aLink] at pLink
    refine ⟨?_, fun own => ?_, fun loud other => ?_, fun loud own => ?_⟩
    · rcases tLink with h | h <;> rw [h, pLink]
    · rcases tLink with h | h
      · rw [h, pLink, passes.2 own]
        rfl
      · rw [h]
    · rw [(outside loud).2, pLink, if_neg (fun h => other (passes.1 h))]
    · rw [(outside loud).2, pLink, if_pos (passes.2 own)]

end Sys2Proof.Machine
end

section
/-!
A beacon's bits: numbers and the bits that write them, the fields of a run of bits, and the reading of a beacon from
the field bits that it was written in (R9, R14, R199, R200).
-/
namespace Sys2Proof.Machine

/-! ## Numbers and their bits -/

@[simp] theorem bitsOf_length (width n : Nat) : (bitsOf width n).length = width := by
  rw [bitsOf, List.length_reverse, List.length_map, List.length_range]

theorem bitsOf_succ (width n : Nat) : bitsOf (width + 1) n = n.testBit width :: bitsOf width n := by
  rw [bitsOf, List.range_succ, List.map_append, List.reverse_append]
  rfl

theorem numberOf_cons (bit : Bool) (bits : List Bool) :
    numberOf (bit :: bits) = bit.toNat * 2 ^ bits.length + numberOf bits := by
  have fold : ∀ n, bits.foldl (fun n b => 2 * n + b.toNat) n = n * 2 ^ bits.length + numberOf bits := by
    unfold numberOf
    induction bits with
    | nil => simp
    | cons b bits ih =>
      intro n
      rw [List.foldl_cons, List.foldl_cons, ih, ih (2 * 0 + b.toNat), List.length_cons, pow_succ]
      ring
  unfold numberOf
  rw [List.foldl_cons, fold]
  simp [numberOf]

theorem numberOf_bitsOf (width n : Nat) : numberOf (bitsOf width n) = n % 2 ^ width := by
  induction width with
  | zero => rw [pow_zero, Nat.mod_one]; rfl
  | succ width ih =>
    rw [bitsOf_succ, numberOf_cons, bitsOf_length, ih, pow_succ, Nat.mod_mul, Nat.toNat_testBit]
    ring

/-! ## The fields of a run of bits -/

theorem field_append {before : List Bool} {start : Nat} (skipped : before.length = start) (rest : List Bool)
    (offset width : Nat) : field (before ++ rest) (start + offset) width = field rest offset width := by
  unfold field
  rw [← skipped, List.drop_length_add_append]

/-- The field at the head of the bits that follow those of another number. -/
theorem field_skip (width n : Nat) (rest : List Bool) {start : Nat} (behind : width ≤ start) (count : Nat) :
    field (bitsOf width n ++ rest) start count = field rest (start - width) count := by
  obtain ⟨offset, rfl⟩ := Nat.exists_eq_add_of_le behind
  rw [field_append (bitsOf_length width n), Nat.add_sub_cancel_left]

theorem field_head {width n : Nat} (fits : n < 2 ^ width) (rest : List Bool) :
    field (bitsOf width n ++ rest) 0 width = n := by
  unfold field
  rw [List.drop_zero, List.take_append_of_le_length (bitsOf_length width n).ge,
    List.take_of_length_le (bitsOf_length width n).le, numberOf_bitsOf, Nat.mod_eq_of_lt fits]

/-! ## Offers and held pairs (R199) -/

@[simp] theorem offerBits_length (o : Offer) : (offerBits o).length = 104 := by
  simp [offerBits]

@[simp] theorem pairBits_length (p : Pair) : (pairBits p).length = 13 := by
  simp [pairBits]

/-- The numbers of an offer fit their fields. -/
def Offer.fits (o : Offer) : Prop :=
  o.tag < 256 ∧ o.targetEpoch < 2 ^ 32 ∧ o.targetPosition < 2 ^ 24 ∧ o.width < 4096 ∧ o.period < 4096 ∧
    o.repeats < 4096

theorem offerAt_append {before : List Bool} {start : Nat} (skipped : before.length = start) (rest : List Bool) :
    offerAt (before ++ rest) start = offerAt rest 0 := by
  have first := field_append skipped rest 0
  rw [Nat.add_zero] at first
  simp only [offerAt, first, field_append skipped, Nat.zero_add]

theorem offerAt_offerBits {o : Offer} (fits : o.fits) (rest : List Bool) : offerAt (offerBits o ++ rest) 0 = o := by
  obtain ⟨tag, epoch, position, width, period, repeats⟩ := fits
  have lines : o.lines.toNat < 16 := o.lines.isLt
  have epoch : o.targetEpoch < 4294967296 := epoch
  have position : o.targetPosition < 16777216 := position
  simp [offerAt, offerBits, field_skip, field_head, *]

theorem pairsAt_succ (bits : List Bool) (start count : Nat) : pairsAt bits start (count + 1)
    = ⟨field bits start 5, field bits (start + 5) 8⟩ :: pairsAt bits (start + 13) count := by
  unfold pairsAt
  rw [List.range_succ_eq_map, List.map_cons, List.map_map]
  congr 1
  refine List.map_congr_left fun i _ => ?_
  simp only [Function.comp_apply, show start + 13 * i.succ = start + 13 + 13 * i by omega]

theorem pairsAt_append {before : List Bool} {start : Nat} (skipped : before.length = start) (rest : List Bool)
    (count : Nat) : pairsAt (before ++ rest) start count = pairsAt rest 0 count := by
  unfold pairsAt
  refine List.map_congr_left fun i _ => ?_
  rw [Nat.add_assoc, field_append skipped, field_append skipped]
  simp

theorem pairsAt_pairBits {held : List Pair} (fits : ∀ p ∈ held, p.proposer < 32 ∧ p.tag < 256) :
    pairsAt (held.flatMap pairBits) 0 held.length = held := by
  induction held with
  | nil => rfl
  | cons p held ih =>
    obtain ⟨proposer, tag⟩ := fits p List.mem_cons_self
    rw [List.flatMap_cons, List.length_cons, pairsAt_succ, pairsAt_append (by simp), ih fun q hq => fits q (.tail _ hq)]
    simp [pairBits, field_skip, field_head, proposer, tag]

/-! ## Beacons (R9, R14, R199, R200) -/

theorem SenderState.ofCode_code (st : SenderState) : SenderState.ofCode st.code = st := by
  cases st <;> rfl

theorem SenderState.code_lt (st : SenderState) : st.code < 4 := by
  cases st <;> decide

/-- The numbers of a beacon fit their fields. -/
def Beacon.fits (b : Beacon) : Prop :=
  b.sender < 32 ∧ b.epoch < 2 ^ 32 ∧ b.held.length ≤ 4 ∧ (∀ p ∈ b.held, p.proposer < 32 ∧ p.tag < 256) ∧
    ∀ o, b.offer = some o → o.fits

/-- The 75 bits before the offer. -/
def beaconHead (b : Beacon) : List Bool :=
  bitsOf 5 b.sender ++ (bitsOf 2 b.state.code ++ (bitsOf 32 b.epoch ++ (bitsOf 32 b.view.toNat
    ++ (bitsOf 1 b.offer.isSome.toNat ++ bitsOf 3 b.held.length))))

/-- The bits of an offer that may be none. -/
def offerPart (offer : Option Offer) : List Bool := (offer.map offerBits).getD []

theorem beaconFieldBits_eq (b : Beacon) :
    beaconFieldBits b = beaconHead b ++ (offerPart b.offer ++ b.held.flatMap pairBits) := by
  unfold beaconFieldBits beaconHead offerPart
  cases b.offer <;> simp

theorem beaconHead_length (b : Beacon) : (beaconHead b).length = 75 := by
  simp [beaconHead]

theorem offerPart_length (offer : Option Offer) : (offerPart offer).length = if offer.isSome then 104 else 0 := by
  cases offer <;> simp [offerPart]

theorem pairBits_flatMap_length (held : List Pair) : (held.flatMap pairBits).length = 13 * held.length := by
  simp [List.length_flatMap, Nat.mul_comm]

theorem beaconFieldBits_length (b : Beacon) :
    (beaconFieldBits b).length = 75 + (if b.offer.isSome then 104 else 0) + 13 * b.held.length := by
  rw [beaconFieldBits_eq, List.length_append, List.length_append, beaconHead_length, offerPart_length,
    pairBits_flatMap_length, Nat.add_assoc]

theorem parseFields_beaconFieldBits {b : Beacon} (fits : b.fits) : parseFields (beaconFieldBits b) = some b := by
  obtain ⟨sender, epoch, held, pairs, offers⟩ := fits
  have state : b.state.code < 4 := b.state.code_lt
  have view : b.view.toNat < 4294967296 := b.view.isLt
  have present : b.offer.isSome.toNat < 2 := by cases b.offer <;> simp
  have count : b.held.length < 8 := by omega
  have length := beaconFieldBits_length b
  have epoch : b.epoch < 4294967296 := epoch
  have heads : field (beaconFieldBits b) 0 5 = b.sender ∧ field (beaconFieldBits b) 5 2 = b.state.code ∧
      field (beaconFieldBits b) 7 32 = b.epoch ∧ field (beaconFieldBits b) 39 32 = b.view.toNat ∧
      field (beaconFieldBits b) 71 1 = b.offer.isSome.toNat ∧ field (beaconFieldBits b) 72 3 = b.held.length := by
    simp [beaconFieldBits_eq, beaconHead, field_skip, field_head, *]
  obtain ⟨h0, h5, h7, h39, h71, h72⟩ := heads
  have flag : (b.offer.isSome.toNat == 1) = b.offer.isSome := by cases b.offer <;> rfl
  have pairsRead : pairsAt (beaconFieldBits b) (75 + if b.offer.isSome then 104 else 0) b.held.length = b.held := by
    rw [beaconFieldBits_eq, ← List.append_assoc, pairsAt_append (by simp [beaconHead_length, offerPart_length]),
      pairsAt_pairBits pairs]
  have offerRead : (if b.offer.isSome then some (offerAt (beaconFieldBits b) 75) else none) = b.offer := by
    rw [beaconFieldBits_eq, offerAt_append (beaconHead_length b)]
    cases offer : b.offer with
    | none => rfl
    | some o => exact congrArg some (offerAt_offerBits (offers o offer) _)
  unfold parseFields
  simp only [h0, h5, h7, h39, h71, h72, flag]
  rw [if_pos ⟨by omega, held, length⟩, offerRead, pairsRead, SenderState.ofCode_code, BitVec.ofNat_toNat,
    BitVec.setWidth_eq]

/-! ## Frames (R9, R14, R200) -/

theorem fieldBits_frameBits (b : Beacon) : fieldBits (frameBits b) = beaconFieldBits b := by
  simp [fieldBits, frameBits]

theorem crcPasses_frameBits (b : Beacon) : crcPasses (frameBits b) = true := by
  unfold crcPasses
  rw [fieldBits_frameBits]
  simp [frameBits]

theorem frameBits_length (b : Beacon) :
    (frameBits b).length = 91 + (if b.offer.isSome then 104 else 0) + 13 * b.held.length := by
  rw [frameBits, List.length_append, beaconFieldBits_length, bitsOf_length]
  omega

theorem validBeacon_frameBits {b : Beacon} (fits : b.fits) (straps : Straps) : validBeacon straps (frameBits b)
    = if beaconValid (windows straps) (epochLength straps) b = true then some b else none := by
  rw [validBeacon, fieldBits_frameBits, parseFields_beaconFieldBits fits, Option.filter_some]

end Sys2Proof.Machine
end

section
/-!
A frame's halves on the line: what the receiver reads from them, which rows its watch brings, and at which instants
(R8, R10, R21, R23, R199).
-/
namespace Sys2Proof.Machine

/-! ## Reading halves (R8; logs 24, 25) -/

theorem runAfter_eq (run : Nat) (bits : List Bool) :
    runAfter run bits = if bits = [] then run else if bits.getLast? = some false then 1 else 0 := by
  cases bits using List.reverseRecOn with
  | nil => rfl
  | append_singleton bits bit => cases bit <;> simp [runAfter]

theorem runAfter_zero (bits : List Bool) : runAfter 0 bits = if bits.getLast? = some false then 1 else 0 := by
  rw [runAfter_eq]
  by_cases empty : bits = []
  · rw [if_pos empty, empty]
    rfl
  · rw [if_neg empty]

theorem runAfter_le {run : Nat} (short : run ≤ 2) (bits : List Bool) : runAfter run bits ≤ 2 := by
  rw [runAfter_eq]
  split_ifs <;> omega

theorem readIdle_recessive (run k : Nat) (more : List Half) (short : run + k < 4) :
    readIdle run (List.replicate k .recessive ++ more) = readIdle (run + k) more := by
  induction k generalizing run with
  | zero => rfl
  | succ k ih =>
    rw [List.replicate_succ, List.cons_append, readIdle, if_neg (by omega), ih (run + 1) (by omega)]
    congr 1
    omega

theorem readIdle_idle (run k : Nat) (more : List Half) (short : run ≤ 3) (quiet : 4 ≤ run + k) :
    readIdle run (List.replicate k .recessive ++ more) = .idle := by
  obtain ⟨rest, hk⟩ : ∃ rest, k = (3 - run) + (rest + 1) := ⟨k - (3 - run) - 1, by omega⟩
  rw [hk, List.replicate_add, List.append_assoc, readIdle_recessive run _ _ (by omega), List.replicate_succ,
    List.cons_append, readIdle, if_pos (by omega)]

/-- Recessive halves alone are read as idle once they are 4 with those before them. -/
theorem readHalves_recessive {run : Nat} (short : run ≤ 3) (k : Nat) :
    readHalves run (List.replicate k .recessive) = ([], if 4 ≤ run + k then .idle else .goingOn) := by
  match k with
  | 0 => rw [if_neg (by omega)]; rfl
  | 1 =>
    show ([], readIdle run [.recessive]) = _
    by_cases last : run = 3
    · subst last; rfl
    · rw [readIdle, if_neg last, if_neg (by omega)]; rfl
  | k + 2 =>
    have pair : readHalves run (List.replicate (k + 2) .recessive)
        = ([], readIdle run (List.replicate (k + 2) .recessive ++ [])) := by
      rw [List.append_nil]; rfl
    rw [pair]
    split_ifs with idle
    · rw [readIdle_idle run _ _ short idle]
    · rw [readIdle_recessive run _ _ (by omega)]; rfl

theorem frameRowAfter_of_idle {quiet : Nat} {bits : List Bool} {rest : List Half} (fits : bits.length ≤ 250)
    (ends : readHalves (runAfter quiet bits) (rest.take (500 - 2 * bits.length)) = ([], .idle)) :
    frameRowAfter quiet (bits.flatMap bitHalves ++ rest) = some (.frameEnd bits false) := by
  rw [frameRowAfter, List.take_append, List.take_of_length_le (by rw [flatMap_bitHalves_length]; omega),
    flatMap_bitHalves_length, readHalves_bits, ends, List.append_nil]

theorem frameRowAfter_of_inError {quiet : Nat} {bits : List Bool} {rest : List Half} (fits : bits.length ≤ 250)
    (ends : readHalves (runAfter quiet bits) (rest.take (500 - 2 * bits.length)) = ([], .inError)) :
    frameRowAfter quiet (bits.flatMap bitHalves ++ rest) = some (.frameEnd bits true) := by
  rw [frameRowAfter, List.take_append, List.take_of_length_le (by rw [flatMap_bitHalves_length]; omega),
    flatMap_bitHalves_length, readHalves_bits, ends, List.append_nil]

theorem frameRowAfter_of_goingOn {quiet : Nat} {bits : List Bool} {rest : List Half} (fits : bits.length ≤ 250)
    (goes : (readHalves (runAfter quiet bits) (rest.take (500 - 2 * bits.length))).2 = .goingOn) :
    frameRowAfter quiet (bits.flatMap bitHalves ++ rest)
      = if 500 ≤ 2 * bits.length + rest.length then some .receiveTimeout else none := by
  rw [frameRowAfter, List.take_append, List.take_of_length_le (by rw [flatMap_bitHalves_length]; omega),
    flatMap_bitHalves_length, readHalves_bits, goes, List.length_append, flatMap_bitHalves_length]

/-- 4 recessive halves after the last bit of a frame of at most 248 bits end it (R8). -/
theorem frameRow_idle {bits : List Bool} (fits : bits.length ≤ 248) (more : List Half) :
    frameRow (bits.flatMap bitHalves ++ List.replicate 4 .recessive ++ more) = some (.frameEnd bits false) := by
  rw [List.append_assoc]
  refine frameRowAfter_of_idle (by omega) ?_
  obtain ⟨room, hroom⟩ : ∃ room, 500 - 2 * bits.length = room + 4 := ⟨496 - 2 * bits.length, by omega⟩
  rw [hroom]
  show ([], readIdle _ (List.replicate 4 .recessive ++ more.take room)) = _
  rw [readIdle_idle _ _ _ ((runAfter_le (by decide) bits).trans (by decide)) (by omega)]

theorem frameRow_unclear {bits : List Bool} (fits : bits.length ≤ 249) (more : List Half) :
    frameRow (bits.flatMap bitHalves ++ .unclear :: more) = some (.frameEnd bits true) := by
  refine frameRowAfter_of_inError (by omega) ?_
  obtain ⟨room, hroom⟩ : ∃ room, 500 - 2 * bits.length = room + 2 := ⟨498 - 2 * bits.length, by omega⟩
  rw [hroom]
  rfl

theorem frameRow_twoDominant {bits : List Bool} (fits : bits.length ≤ 249) (more : List Half) :
    frameRow (bits.flatMap bitHalves ++ .dominant :: .dominant :: more) = some (.frameEnd bits true) := by
  refine frameRowAfter_of_inError (by omega) ?_
  obtain ⟨room, hroom⟩ : ∃ room, 500 - 2 * bits.length = room + 2 := ⟨498 - 2 * bits.length, by omega⟩
  rw [hroom]
  rfl

theorem frameRow_twoRecessive {bits : List Bool} (fits : bits.length ≤ 249) (more : List Half) :
    frameRow (bits.flatMap bitHalves ++ .recessive :: .recessive :: .dominant :: more)
      = if bits.length = 249 then some .receiveTimeout else some (.frameEnd bits true) := by
  have short : runAfter 0 bits ≤ 1 := by rw [runAfter_zero]; split_ifs <;> omega
  split_ifs with last
  · refine (frameRowAfter_of_goingOn (by omega) ?_).trans (if_pos (by simp only [List.length_cons]; omega))
    rw [last]
    show (readHalves _ (List.replicate 2 .recessive)).2 = _
    rw [readHalves_recessive (by omega), if_neg (by omega)]
  · refine frameRowAfter_of_inError (by omega) ?_
    obtain ⟨room, hroom⟩ : ∃ room, 500 - 2 * bits.length = room + 3 := ⟨497 - 2 * bits.length, by omega⟩
    rw [hroom]
    show ([], readIdle _ (List.replicate 2 .recessive ++ .dominant :: more.take room)) = _
    rw [readIdle_recessive _ _ _ (by omega)]
    rfl

/-- 250 bits after the mark's 4 bit times, a frame that has not ended times out (R8). -/
theorem frameRow_timeout {bits : List Bool} (long : 250 ≤ bits.length) (more : List Half) :
    frameRow (bits.flatMap bitHalves ++ more) = some .receiveTimeout := by
  have length : (bits.take 250).length = 250 := by rw [List.length_take]; omega
  rw [← List.take_append_drop 250 bits, List.flatMap_append, List.append_assoc]
  refine (frameRowAfter_of_goingOn length.le ?_).trans (if_pos (by omega))
  rw [length]
  rfl

/-! ## Driving halves (R21, R23, R199) -/

theorem flatMap_bitHalves_getElem? (bits : List Bool) (j : Nat) :
    (bits.flatMap bitHalves)[2 * j]? = bits[j]?.map (fun bit => if bit then .recessive else .dominant) ∧
    (bits.flatMap bitHalves)[2 * j + 1]? = bits[j]?.map (fun bit => if bit then .dominant else .recessive) := by
  induction bits generalizing j with
  | nil => exact ⟨rfl, rfl⟩
  | cons bit bits ih =>
    cases j with
    | zero => cases bit <;> exact ⟨rfl, rfl⟩
    | succ j => cases bit <;> exact ih j

theorem lineHalves_start {bits : List Bool} {i : Nat} (start : i < 8) : (lineHalves bits)[i]? = some .dominant := by
  rw [lineHalves, List.getElem?_append_left (by simpa [startOfFrame] using start), startOfFrame,
    List.getElem?_replicate, if_pos start]

theorem lineHalves_bits (bits : List Bool) (i : Nat) : (lineHalves bits)[8 + i]? = (bits.flatMap bitHalves)[i]? := by
  rw [lineHalves, List.getElem?_append_right (by simp [startOfFrame])]
  simp [startOfFrame]

theorem State.drives_of_half {s : State} {b : OwnBeacon} (beacon : s.link.beacon = some b) {i : Nat} {half : Half}
    (stands : (lineHalves b.bits)[i]? = some half) :
    s.drivenHalf i = half ∧ s.readsBack i = (half == .recessive) := by
  unfold drivenHalf readsBack
  rw [beacon]
  dsimp only
  rw [List.getD_eq_getElem?_getD, stands]
  exact ⟨rfl, rfl⟩

theorem State.drives_after {s : State} {b : OwnBeacon} (beacon : s.link.beacon = some b) {i : Nat}
    (ended : 8 + 2 * b.bits.length ≤ i) : s.drivenHalf i = .recessive ∧ s.readsBack i = false := by
  have silent : (lineHalves b.bits)[i]? = none := List.getElem?_eq_none (by simpa using ended)
  unfold drivenHalf readsBack
  rw [beacon]
  dsimp only
  rw [List.getD_eq_getElem?_getD, silent]
  exact ⟨rfl, rfl⟩

/-! ## The receiver's watch (R8, R10; logs 24, 26, 27) -/

namespace Watch

theorem rowsAt_of_none {w next : Watch} {h : Half} (half : w.half h = (next, none)) (passed : Nat)
    (more : List Half) : w.rowsAt passed (h :: more) = next.rowsAt (passed + 1) more := by
  rw [rowsAt, half]

theorem rows_of_none {w next : Watch} {h : Half} (half : w.half h = (next, none)) (more : List Half) :
    w.rows (h :: more) = next.rows more := by
  rw [rows, half]

theorem half_frame_none {quiet : Nat} {read : List Half} {h : Half} (none : frameRowAfter quiet (read ++ [h]) = none) :
    (frame quiet read).half h = (.frame quiet (read ++ [h]), Option.none) := by
  rw [half, none]

theorem half_frame_some {quiet : Nat} {read : List Half} {h : Half} {row : Instr}
    (brings : frameRowAfter quiet (read ++ [h]) = some row) :
    (frame quiet read).half h = (Watch.after (read ++ [h]) row, some row) := by
  rw [half, brings]

/-- A start-of-frame stands at its leading edge, and the bits are read from 4 bit times after it on (R8, R10). -/
theorem rowsAt_start {run : Nat} (least : 6 ≤ run) (most : run ≤ 8) (passed : Nat) (more : List Half) :
    (waiting 4).rowsAt passed (List.replicate run .dominant ++ List.replicate (8 - run) .recessive ++ more)
      = (passed, .startOfFrame) :: (frame (8 - run) []).rowsAt (passed + 8) more := by
  interval_cases run <;> rfl

/-- Whole bits bring no row, up to 249 of them. -/
theorem rowsAt_bits {quiet : Nat} (short : quiet ≤ 2) (passed : Nat) (read bits : List Bool)
    (fits : read.length + bits.length ≤ 249) (more : List Half) :
    (frame quiet (read.flatMap bitHalves)).rowsAt passed (bits.flatMap bitHalves ++ more)
      = (frame quiet ((read ++ bits).flatMap bitHalves)).rowsAt (passed + 2 * bits.length) more := by
  induction bits generalizing read passed with
  | nil => rw [List.append_nil]; rfl
  | cons bit bits ih =>
    rw [List.length_cons] at fits
    have run := runAfter_le short read
    have first : ∀ h : Half, h ≠ .unclear → frameRowAfter quiet (read.flatMap bitHalves ++ [h]) = none := by
      intro h clear
      refine (frameRowAfter_of_goingOn (by omega) ?_).trans (if_neg (by simp only [List.length_singleton]; omega))
      rw [List.take_of_length_le (by simp only [List.length_singleton]; omega)]
      cases h with
      | dominant => rfl
      | recessive =>
        show (readHalves _ (List.replicate 1 .recessive)).2 = _
        rw [readHalves_recessive (by omega), if_neg (by omega)]
      | unclear => exact absurd rfl clear
    have both : frameRowAfter quiet ((read ++ [bit]).flatMap bitHalves) = none := by
      rw [← List.append_nil (List.flatMap _ _)]
      refine (frameRowAfter_of_goingOn (by simp; omega) ?_).trans (if_neg (by simp; omega))
      rw [List.take_nil]
      rfl
    obtain ⟨h₁, h₂, halves, clear⟩ : ∃ h₁ h₂, bitHalves bit = [h₁, h₂] ∧ h₁ ≠ .unclear := by
      cases bit
      · exact ⟨_, _, rfl, by decide⟩
      · exact ⟨_, _, rfl, by decide⟩
    have whole : (read ++ [bit]).flatMap bitHalves = read.flatMap bitHalves ++ [h₁] ++ [h₂] := by
      simp [halves]
    rw [List.flatMap_cons, halves, List.append_assoc, List.cons_append, List.singleton_append,
      rowsAt_of_none (half_frame_none (first h₁ clear)), rowsAt_of_none (half_frame_none (whole ▸ both)), ← whole,
      ih (passed + 1 + 1) (read ++ [bit]) (by simp; omega), List.append_assoc, List.singleton_append, List.length_cons]
    congr 1
    omega

theorem frameRowAfter_recessive {quiet : Nat} {bits : List Bool} (fits : bits.length ≤ 248)
    {k : Nat} (upTo : runAfter quiet bits ≤ 3) (most : runAfter quiet bits + k ≤ 4) :
    frameRowAfter quiet (bits.flatMap bitHalves ++ List.replicate k .recessive)
      = if 4 ≤ runAfter quiet bits + k then some (.frameEnd bits false) else none := by
  have whole : (List.replicate k Half.recessive).take (500 - 2 * bits.length) = List.replicate k .recessive :=
    List.take_of_length_le (by rw [List.length_replicate]; omega)
  have ends := readHalves_recessive upTo k
  split_ifs with idle
  · rw [if_pos idle] at ends
    exact frameRowAfter_of_idle (by omega) (by rw [whole, ends])
  · rw [if_neg idle] at ends
    exact (frameRowAfter_of_goingOn (by omega) (by rw [whole, ends])).trans
      (if_neg (by rw [List.length_replicate]; omega))

/-- Recessive halves after whole bits bring no row as long as they are fewer than 4 with the one that ends a 0. -/
theorem rowsAt_quiet {quiet : Nat} {bits : List Bool} (fits : bits.length ≤ 248) {k : Nat}
    (short : runAfter quiet bits + k < 4) (passed : Nat) (more : List Half) :
    (frame quiet (bits.flatMap bitHalves)).rowsAt passed (List.replicate k .recessive ++ more)
      = (frame quiet (bits.flatMap bitHalves ++ List.replicate k .recessive)).rowsAt (passed + k) more := by
  induction k generalizing more with
  | zero => rw [List.replicate_zero, List.append_nil]; rfl
  | succ k ih =>
    have goes : frameRowAfter quiet (bits.flatMap bitHalves ++ List.replicate k .recessive ++ [.recessive]) = none := by
      rw [List.append_assoc, ← List.replicate_succ', frameRowAfter_recessive fits (by omega) (by omega),
        if_neg (by omega)]
    rw [List.replicate_succ', List.append_assoc, ih (by omega), List.singleton_append,
      rowsAt_of_none (half_frame_none goes), List.append_assoc, Nat.add_assoc]

/-- A frame's end stands at the end of its last bit, and the line is idle when it is seen (R8, R10). -/
theorem rowsAt_end {quiet : Nat} {bits : List Bool} (fits : bits.length ≤ 248) (short : runAfter quiet bits ≤ 3)
    (passed : Nat) (more : List Half) : (frame quiet (bits.flatMap bitHalves)).rowsAt passed
        (List.replicate (4 - runAfter quiet bits) .recessive ++ more)
      = (passed, .frameEnd bits false) :: (waiting 4).rowsAt (passed + (4 - runAfter quiet bits)) more := by
  obtain ⟨k, hk⟩ : ∃ k, 4 - runAfter quiet bits = k + 1 := ⟨3 - runAfter quiet bits, by omega⟩
  have ends : frameRowAfter quiet (bits.flatMap bitHalves ++ List.replicate k .recessive ++ [.recessive])
      = some (.frameEnd bits false) := by
    rw [List.append_assoc, ← List.replicate_succ', frameRowAfter_recessive fits short (by omega), if_pos (by omega)]
  have back : (frame quiet (bits.flatMap bitHalves ++ List.replicate k .recessive)).halvesBack (.frameEnd bits false)
      = k + 1 := by
    rw [halvesBack, List.length_append, flatMap_bitHalves_length, List.length_replicate]
    omega
  rw [hk, List.replicate_succ', List.append_assoc, rowsAt_quiet fits (by omega), List.singleton_append, rowsAt,
    half_frame_some ends]
  dsimp only
  rw [back, show passed + k + 1 - (k + 1) = passed by omega, Nat.add_assoc]
  rfl

theorem rowsAt_waiting_recessive {n : Nat} (most : n ≤ 4) (k passed : Nat) (more : List Half) :
    (waiting n).rowsAt passed (List.replicate k .recessive ++ more)
      = (waiting (min 4 (n + k))).rowsAt (passed + k) more := by
  induction k generalizing n passed with
  | zero => rw [Nat.add_zero, Nat.min_eq_right most]; rfl
  | succ k ih =>
    rw [List.replicate_succ, List.cons_append, rowsAt_of_none (next := waiting (min 4 (n + 1))) rfl,
      ih (Nat.min_le_left _ _), show min 4 (min 4 (n + 1) + k) = min 4 (n + (k + 1)) by omega,
      show passed + 1 + k = passed + (k + 1) by omega]

/-- A frame whose dominant lead lasted 6 to 8 halves, and the recessive line behind it (R8, R10, R199). -/
theorem rowsAt_frame {run : Nat} (least : 6 ≤ run) (most : run ≤ 8) {bits : List Bool} (fits : bits.length ≤ 248)
    (passed quiet : Nat) : (waiting 4).rowsAt passed (List.replicate run .dominant
        ++ List.replicate (8 - run) .recessive ++ (bits.flatMap bitHalves ++ List.replicate quiet .recessive))
      = (passed, .startOfFrame) :: if 4 ≤ runAfter (8 - run) bits + quiet
          then [(passed + 8 + 2 * bits.length, .frameEnd bits false)] else [] := by
  have short : runAfter (8 - run) bits ≤ 2 := runAfter_le (by omega) bits
  rw [rowsAt_start least most]
  congr 1
  refine (rowsAt_bits (by omega) (passed + 8) [] bits (by rw [List.length_nil]; omega) _).trans ?_
  rw [List.nil_append]
  split_ifs with idle
  · obtain ⟨rest, hrest⟩ : ∃ rest, quiet = 4 - runAfter (8 - run) bits + rest :=
      ⟨quiet - (4 - runAfter (8 - run) bits), by omega⟩
    rw [hrest, List.replicate_add, rowsAt_end fits (by omega), ← List.append_nil (List.replicate rest _),
      rowsAt_waiting_recessive (by decide)]
    rfl
  · rw [← List.append_nil (List.replicate quiet _), rowsAt_quiet fits (by omega)]
    rfl

/-- A dominant run that is followed by idle is a frame without a bit (R8; log 27). -/
theorem rowsAt_frame_empty {run : Nat} (least : 6 ≤ run) (most : run ≤ 8) (passed : Nat) (more : List Half) :
    (waiting 4).rowsAt passed (List.replicate run .dominant ++ List.replicate 4 .recessive ++ more)
      = (passed, .startOfFrame) :: (passed + 8, .frameEnd [] false) :: (waiting 4).rowsAt (passed + run + 4) more := by
  interval_cases run <;> rfl

/-! ## Idle, noise and the start of a frame (R8) -/

theorem rows_eq_of_rowsAt {w v : Watch} {halves more : List Half} {front : List (Nat × Instr)} {passed later : Nat}
    (timed : w.rowsAt passed halves = front ++ v.rowsAt later more) :
    w.rows halves = front.map Prod.snd ++ v.rows more := by
  rw [← rowsAt_map_snd w passed, timed, List.map_append, rowsAt_map_snd]

/-- From idle on, 4 recessive halves or more leave the receiver waiting at idle. -/
theorem rows_waiting_quiet {n quiet : Nat} (most : n ≤ 4) (idle : 4 ≤ quiet) (more : List Half) :
    (waiting n).rows (List.replicate quiet .recessive ++ more) = (waiting 4).rows more := by
  have timed := rowsAt_waiting_recessive most quiet 0 more
  rw [Nat.min_eq_left (by omega)] at timed
  exact rows_eq_of_rowsAt (front := []) timed

/-- A dominant run of less than 3 bit times from idle is noise. -/
theorem rows_noise {run : Nat} (least : 1 ≤ run) (most : run ≤ 5) (more : List Half) :
    (waiting 4).rows (List.replicate run .dominant ++ .recessive :: more) = (waiting 1).rows more := by
  interval_cases run <;> rfl

theorem rows_start {run : Nat} (least : 6 ≤ run) (more : List Half) :
    (waiting 4).rows (List.replicate run .dominant ++ more)
      = .startOfFrame :: (leadIn 6 0).rows (List.replicate (run - 6) .dominant ++ more) := by
  obtain ⟨rest, rfl⟩ := Nat.exists_eq_add_of_le least
  rw [List.replicate_add, List.append_assoc, Nat.add_sub_cancel_left]
  rfl

/-- A dominant run that idle does not precede starts no frame (R8). -/
theorem rows_notIdle {n : Nat} (busy : n < 4) {run : Nat} (least : 1 ≤ run) (more : List Half) :
    (waiting n).rows (List.replicate run .dominant ++ .recessive :: more) = (waiting 1).rows more := by
  induction run, least using Nat.le_induction generalizing n with
  | base =>
    rw [List.replicate_one, List.singleton_append, rows_of_none (next := waiting 0)]
    · rfl
    · simp [half, busy.ne]
  | succ run _ ih =>
    rw [List.replicate_succ, List.cons_append, rows_of_none (next := waiting 0)]
    · exact ih (by decide)
    · simp [half, busy.ne]

/-- A half that reads as neither level ends a run from idle (log 26). -/
theorem rows_unclear {w : Watch} (outside : w = .waiting 4 ∨ ∃ run, w = .dominantRun run) (more : List Half) :
    w.rows (.unclear :: more) = (waiting 0).rows more := by
  obtain rfl | ⟨run, rfl⟩ := outside <;> rfl

/-! ## Frames in error (R8; log 24) -/

theorem readIdle_then_recessive {run : Nat} {halves : List Half} (goes : readIdle run halves = .goingOn) :
    readIdle run (halves ++ [.recessive]) ≠ .inError := by
  induction halves generalizing run with
  | nil =>
    show (if run = 3 then Reading.idle else .goingOn) ≠ _
    split_ifs <;> decide
  | cons h halves ih =>
    cases h with
    | dominant => cases goes
    | unclear => cases goes
    | recessive =>
      rw [readIdle] at goes
      rw [List.cons_append, readIdle]
      split_ifs at goes ⊢ with idle
      · exact ih goes

/-- A recessive half never ends a frame in error. -/
theorem readHalves_then_recessive {run : Nat} {halves : List Half} (goes : (readHalves run halves).2 = .goingOn) :
    (readHalves run (halves ++ [.recessive])).2 ≠ .inError := by
  fun_induction readHalves run halves with
  | case1 run rest ih => exact ih goes
  | case2 run rest ih => exact ih goes
  | case3 run rest => exact readIdle_then_recessive goes
  | case8 run => exact (by decide : Reading.goingOn ≠ .inError)
  | case9 run => exact readIdle_then_recessive goes
  | case10 run => exact readIdle_then_recessive (halves := []) rfl
  | _ => cases goes

theorem frameRowAfter_eq_none {quiet : Nat} {read : List Half} (none : frameRowAfter quiet read = none) :
    read.length < 500 ∧ (readHalves quiet read).2 = .goingOn := by
  unfold frameRowAfter at none
  split at none
  · cases none
  · cases none
  next _ reading =>
    split_ifs at none with long
    rw [List.take_of_length_le (by omega)] at reading
    exact ⟨by omega, by rw [reading]⟩

theorem frameRowAfter_inError {quiet : Nat} {read : List Half} {bits : List Bool}
    (row : frameRowAfter quiet read = some (.frameEnd bits true)) :
    (readHalves quiet (read.take 500)).2 = .inError := by
  unfold frameRowAfter at row
  split at row
  next => cases row
  next _ reading => rw [reading]
  next => split_ifs at row; cases row

/-- The half that ends a frame in error is not recessive, and the receiver waits for idle from it on (R8; log 24). -/
theorem rows_inError {quiet : Nat} {read : List Half} {h : Half} {bits : List Bool}
    (before : frameRowAfter quiet read = none)
    (brings : frameRowAfter quiet (read ++ [h]) = some (.frameEnd bits true)) (more : List Half) :
    h ≠ .recessive ∧ (frame quiet read).rows (h :: more) = .frameEnd bits true :: (waiting 0).rows more := by
  obtain ⟨room, goes⟩ := frameRowAfter_eq_none before
  have loud : h ≠ .recessive := by
    rintro rfl
    have ended := frameRowAfter_inError brings
    rw [List.take_of_length_le (by simpa using room)] at ended
    exact readHalves_then_recessive goes ended
  refine ⟨loud, ?_⟩
  have quietless : trailingQuiet (read ++ [h]) = 0 := by
    simp [trailingQuiet, loud]
  rw [rows, half_frame_some brings]
  dsimp only
  rw [Watch.after, quietless]
  · rfl
  · simp

/-! ## Whole frames (R8, R10, R199) -/

/-- As a station sends it, a frame ends 3 recessive halves after a last bit 0 and 4 after a last bit 1. -/
theorem rowsAt_lineHalves {bits : List Bool} (fits : bits.length ≤ 248) (passed quiet : Nat) :
    (waiting 4).rowsAt passed (lineHalves bits ++ List.replicate quiet .recessive)
      = (passed, .startOfFrame) :: if (if bits.getLast? = some false then 3 else 4) ≤ quiet
          then [(passed + 8 + 2 * bits.length, .frameEnd bits false)] else [] := by
  have ends : 4 ≤ runAfter (8 - 8) bits + quiet ↔ (if bits.getLast? = some false then 3 else 4) ≤ quiet := by
    rw [runAfter_zero]
    split_ifs <;> omega
  have frame := rowsAt_frame (run := 8) (by decide) (by decide) fits passed quiet
  rw [List.replicate_zero, List.append_nil] at frame
  rw [lineHalves, startOfFrame, List.append_assoc, frame]
  simp only [ends]

theorem rows_frame {run : Nat} (least : 6 ≤ run) (most : run ≤ 8) {bits : List Bool} (fits : bits.length ≤ 248) :
    (waiting 4).rows (List.replicate run .dominant ++ List.replicate (8 - run) .recessive ++ bits.flatMap bitHalves
      ++ List.replicate 4 .recessive) = [.startOfFrame, .frameEnd bits false] := by
  rw [← rowsAt_map_snd _ 0, List.append_assoc, rowsAt_frame least most fits, if_pos (by omega)]
  rfl

end Watch

/-! ## The round trip -/

/-- Settles O51: the fields are read at the places where they were written, and the watch runs over a frame's lead-in,
its bits and the idle line in turn. -/
theorem beaconRoundTrip : Obligations.BeaconRoundTrip := by
  refine ⟨fun straps b sender epoch held pairs offers => ?_, ⟨rfl, rfl, fun _ => rfl⟩,
    fun bits more fits => frameRow_idle fits more,
    fun bits more fits => ⟨frameRow_unclear fits more, frameRow_twoDominant fits more, frameRow_twoRecessive fits more⟩,
    fun bits more long => frameRow_timeout long more, fun s b beacon i => ⟨?_, s.drives_after beacon, ?_⟩, ?_, ?_, ?_,
    fun n quiet most idle => ⟨?_, fun run more => ⟨?_, ?_⟩⟩, ?_, ?_, fun n run more busy least =>
      Watch.rows_notIdle busy least more, fun w more outside => Watch.rows_unclear outside more,
    fun quiet read more h bits before brings => Watch.rows_inError before brings more⟩
  · have fits : b.fits := ⟨sender, epoch, held, pairs, offers⟩
    exact ⟨parseFields_beaconFieldBits fits, fieldBits_frameBits b, crcPasses_frameBits b, frameBits_length b,
      validBeacon_frameBits fits straps⟩
  · exact fun start => s.drives_of_half beacon (lineHalves_start start)
  · intro j bit there
    obtain ⟨first, second⟩ := flatMap_bitHalves_getElem? b.bits j
    rw [there] at first second
    refine ⟨fun early => ?_, fun late => ?_⟩
    · obtain ⟨drives, reads⟩ := s.drives_of_half beacon (early ▸ (lineHalves_bits _ _).trans first)
      exact ⟨drives, by rw [reads]; cases bit <;> rfl⟩
    · obtain ⟨drives, reads⟩ := s.drives_of_half beacon (late ▸ (lineHalves_bits _ _).trans second)
      exact ⟨drives, by rw [reads]; cases bit <;> rfl⟩
  · exact fun bits fits => Watch.rows_frame (run := 8) (by decide) (by decide) fits
  · exact fun passed quiet bits fits => Watch.rowsAt_lineHalves fits passed quiet
  · intro passed run least most
    have timed := Watch.rowsAt_frame_empty least most passed []
    rwa [List.append_nil] at timed
  · have timed := Watch.rows_waiting_quiet most idle []
    rwa [List.append_nil] at timed
  · intro least short
    rw [List.append_assoc, Watch.rows_waiting_quiet most idle, Watch.rows_noise least short]
  · intro least
    rw [List.append_assoc, Watch.rows_waiting_quiet most idle, Watch.rows_start least]
  · exact fun run more least most => Watch.rows_eq_of_rowsAt (front := [(0, _), (0 + 8, _)])
      (Watch.rowsAt_frame_empty least most 0 more)
  · exact fun run bits least most fits => Watch.rows_frame least most fits

end Sys2Proof.Machine
end

section
/-!
The 32-bit epochs, and the state after reset (R40, R195).
-/
namespace Sys2Proof.Machine

/-- The resolved epoch lies within half a period of r, above it when the distance is exactly a half; but below 2^32,
where no epoch precedes it, it may lie farther above (R40). -/
theorem resolveEpoch_near {v : Nat} (fits : v < 2 ^ 32) (r : Nat) :
    (r < resolveEpoch v r + 2 ^ 31 ∧ resolveEpoch v r ≤ r + 2 ^ 31) ∨
      (resolveEpoch v r < 2 ^ 32 ∧ r + 2 ^ 31 < resolveEpoch v r) := by
  unfold resolveEpoch
  simp only []
  split_ifs <;> omega

/-- Settles O52: any other epoch with these low 32 bits lies 2^32 or more from the resolved one, which is near. -/
theorem epochsResolveToTheNearest : Obligations.EpochsResolveToTheNearest := by
  intro v r fits
  have low := resolveEpoch_mod fits r
  refine ⟨low, fun x same other => ?_⟩
  have apart : resolveEpoch v r + 2 ^ 32 ≤ x ∨ x + 2 ^ 32 ≤ resolveEpoch v r := by omega
  obtain near | first := resolveEpoch_near fits r <;> omega

namespace State

/-- No slot of the schedule after a start holds an entry (R139). -/
theorem start_holds_none {s : State} (started : s.schedule = Schedule.start) (h : Nat) (e : Entry) : ¬ s.holds h e := by
  intro held
  have free : e ∈ (none : Option Entry) := by
    rw [holds, started] at held
    exact List.eq_of_mem_replicate (List.mem_of_getElem? held) ▸ rfl
  cases free

/-- The peer table after reset holds SELF at the own number 0, and entries with power-on values (R45, R66). -/
theorem reset_peers {j : Nat} {e : Peer} (entry : reset.peers[j]? = some e) :
    (j = 0 ∧ e = Peer.own) ∨ (j ≠ 0 ∧ e = Peer.fresh) := by
  cases j with
  | zero => exact .inl ⟨rfl, (Option.some.inj entry).symm⟩
  | succ j =>
    have later : (List.replicate 7 Peer.fresh)[j]? = some e := entry
    exact .inr ⟨by simp, List.eq_of_mem_replicate (List.mem_of_getElem? later)⟩

/-- No peer entry after reset is CANDIDATE or MEMBER or holds a lead. -/
theorem reset_peers_quiet {e : Peer} (he : e ∈ reset.peers) :
    e.state ≠ .candidate ∧ e.state ≠ .member ∧ e.currentLead = none ∧ e.lastLead = none := by
  obtain ⟨j, entry⟩ := List.mem_iff_getElem?.1 he
  obtain ⟨-, rfl⟩ | ⟨-, rfl⟩ := reset_peers entry <;> simp [Peer.own, Peer.fresh]

theorem reset_groupHolds : reset.groupHolds := by
  refine ⟨by decide, by decide, fun j e entry other => ?_, fun _ => ⟨rfl, fun e he => ?_⟩, by decide⟩
  · obtain ⟨rfl, -⟩ | ⟨-, rfl⟩ := reset_peers entry
    · exact absurd rfl other
    · simp [Peer.fresh]
  · obtain ⟨candidate, member, lead, -⟩ := reset_peers_quiet he
    exact ⟨candidate, member, lead⟩

end State

/-- Settles O60: the schedule is empty, the peer table has power-on values, and the store its defaults. -/
theorem resetMeetsTheInvariants : Obligations.ResetMeetsTheInvariants := by
  have free := State.start_holds_none (s := State.reset) rfl
  refine ⟨by unfold State.capacitiesHold; decide, by unfold State.timeHolds; decide, ConfigStore.defaults_accepted,
    fun h e held => absurd held (free h e), ⟨rfl, fun h e held => absurd held (free h e),
    fun h e held => absurd held (free h e), fun h own => (by cases own)⟩, State.reset_groupHolds,
    ⟨fun dormant => absurd rfl dormant, fun frozen => (by cases frozen)⟩, fun e he standing => ?_, fun e he => ?_⟩
  · obtain ⟨candidate, member, -⟩ := State.reset_peers_quiet he
    exact (standing.elim candidate member).elim
  · obtain ⟨-, -, current, last⟩ := State.reset_peers_quiet he
    simp [current, last]

end Sys2Proof.Machine
end

section
/-!
What every operation keeps of the ranges: the lengths of the bounded lists, the order of T and H, the rate trim and the
configuration parameters (R27, R29, R30, R86, R118, R124, R161, R171, R185). The relation is a preorder, so an operation
keeps the ranges when the operations that make it up do.
-/
namespace Sys2Proof.Machine

/-- What an operation keeps of the timebase: T at most H and a 64-bit count, H a 64-bit count, the trim in its range
(R27, R29, R30). -/
structure Timebase.KeepsRange (a b : Timebase) : Prop where
  reached : a.time ≤ a.high ∧ a.time < 2 ^ 64 → b.time ≤ b.high ∧ b.time < 2 ^ 64
  high : a.high < 2 ^ 64 → b.high < 2 ^ 64
  trim : -200000 ≤ a.trim ∧ a.trim ≤ 200000 → -200000 ≤ b.trim ∧ b.trim ≤ 200000

namespace Timebase.KeepsRange

theorem refl (a : Timebase) : a.KeepsRange a := ⟨id, id, id⟩

theorem trans {a b c : Timebase} (first : a.KeepsRange b) (second : b.KeepsRange c) : a.KeepsRange c :=
  ⟨second.reached ∘ first.reached, second.high ∘ first.high, second.trim ∘ first.trim⟩

/-- The residue, the slew and the period in progress have no range of their own. -/
theorem of_eq {a b : Timebase} (time : b.time = a.time) (high : b.high = a.high) (trim : b.trim = a.trim) :
    a.KeepsRange b := by
  constructor <;> simp only [time, high, trim] <;> exact id

end Timebase.KeepsRange

/-- From s to t every list keeps its bound, the timebase its ranges and the configuration its own. -/
structure State.KeepsRanges (s t : State) : Prop where
  queue : s.capture.queue.length ≤ 16 → t.capture.queue.length ≤ 16
  log : s.correction.log.length ≤ 16 → t.correction.log.length ≤ 16
  declined : s.schedule.declined.length ≤ 4 → t.schedule.declined.length ≤ 4
  slots : s.schedule.slots.length = 16 → t.schedule.slots.length = 16
  lines : s.schedule.lines.length = 4 → t.schedule.lines.length = 4
  timebase : s.timebase.KeepsRange t.timebase
  config : s.configHolds → t.configHolds

/-- What the ranges speak of. -/
def State.rangeParts (s : State) : Timebase × List LogRecord × Schedule × List EventRecord × ConfigStore :=
  (s.timebase, s.correction.log, s.schedule, s.capture.queue, s.port.config)

namespace State.KeepsRanges

theorem refl (s : State) : s.KeepsRanges s := ⟨id, id, id, id, id, .refl _, id⟩

theorem trans {s t u : State} (first : s.KeepsRanges t) (second : t.KeepsRanges u) : s.KeepsRanges u :=
  ⟨second.queue ∘ first.queue, second.log ∘ first.log, second.declined ∘ first.declined, second.slots ∘ first.slots,
    second.lines ∘ first.lines, first.timebase.trans second.timebase, second.config ∘ first.config⟩

theorem of_parts {s t : State} (h : t.rangeParts = s.rangeParts) : s.KeepsRanges t := by
  simp only [rangeParts, Prod.mk.injEq] at h
  obtain ⟨timebase, log, schedule, queue, config⟩ := h
  refine ⟨by rw [queue]; exact id, by rw [log]; exact id, by rw [schedule]; exact id, by rw [schedule]; exact id,
    by rw [schedule]; exact id, by rw [timebase]; exact .refl _, ?_⟩
  unfold configHolds
  rw [config]
  exact id

/-- An operation that keeps `still` leaves the ranges but those of the schedule and the queue. -/
theorem of_still {s t : State} (still : t.still = s.still)
    (queue : s.capture.queue.length ≤ 16 → t.capture.queue.length ≤ 16)
    (declined : s.schedule.declined.length ≤ 4 → t.schedule.declined.length ≤ 4)
    (slots : t.schedule.slots.length = s.schedule.slots.length)
    (lines : t.schedule.lines.length = s.schedule.lines.length) : s.KeepsRanges t := by
  have config : t.port.config = s.port.config := portStill_config (still_portStill still)
  have log : t.correction.log = s.correction.log := congrArg (·.log) (still_correction still)
  refine ⟨queue, by rw [log]; exact id, declined, by rw [slots]; exact id, by rw [lines]; exact id, ?_, ?_⟩
  · rw [still_timebase still]
    exact .refl _
  · unfold configHolds
    rw [config]
    exact id

/-- A new timebase and link engine. -/
theorem of_timebase (s : State) {b : Timebase} (l : Link) (keeps : s.timebase.KeepsRange b) :
    s.KeepsRanges { s with timebase := b, link := l } :=
  ⟨id, id, id, id, id, keeps, id⟩

theorem foldl {β : Type} {f : State → β → State} (turn : ∀ (s : State) (x : β), s.KeepsRanges (f s x)) (l : List β)
    (s : State) : s.KeepsRanges (l.foldl f s) :=
  foldl_invariant (fun u x hu => trans hu (turn u x)) l s (refl s)

theorem ite {s t u : State} {p : Prop} [Decidable p] (first : s.KeepsRanges t) (second : s.KeepsRanges u) :
    s.KeepsRanges (if p then t else u) :=
  iteInduction (motive := s.KeepsRanges) (fun _ => first) fun _ => second

end State.KeepsRanges

namespace State

/-! ## The schedule's own events -/

theorem post_keepsRanges (s : State) (r : EventRecord) : s.KeepsRanges (s.post r) := by
  obtain ⟨room, posted⟩ | ⟨-, posted⟩ := s.post_cases r
  · rw [posted]
    exact .of_still rfl (fun _ => by simpa using room) id rfl rfl
  · rw [posted]
    exact .of_parts rfl

theorem setSlot_keepsRanges (s : State) (h : Nat) (e : Option Entry) : s.KeepsRanges (s.setSlot h e) :=
  .of_still rfl id id (by simp) rfl

theorem endProposal_keepsRanges (s : State) (h : Nat) : s.KeepsRanges (s.endProposal h) :=
  .ite (.of_still rfl id id rfl rfl) (.refl s)

theorem pulseLines_keepsRanges (s : State) (l : LineSet) (w : Nat) : s.KeepsRanges (s.pulseLines l w) :=
  .of_still rfl id id rfl (by simp [pulseLines])

/-- The declined list gets no longer. -/
theorem filterDeclined_keepsRanges (s : State) (keep : Declined → Bool) :
    s.KeepsRanges { s with schedule.declined := s.schedule.declined.filter keep } :=
  .of_still rfl id (fun fits => (List.length_filter_le _ _).trans fits) rfl rfl

theorem fireAs_keepsRanges (s : State) (h : Nat) (e : Entry) (after : Option Entry) (late : Bool) (k : Nat) :
    s.KeepsRanges (s.fireAs h e after late k) :=
  have fired := (pulseLines_keepsRanges s e.lines e.width).trans (setSlot_keepsRanges _ h after)
  .ite (fired.trans (post_keepsRanges _ _)) fired

theorem fireIfDue_keepsRanges (s : State) (h : Nat) : s.KeepsRanges (s.fireIfDue h) := by
  unfold fireIfDue
  split
  · exact .ite (fireAs_keepsRanges _ _ _ _ _ _) (.refl s)
  · exact .refl s

theorem takeFirings_keepsRanges (s : State) : s.KeepsRanges s.takeFirings := .foldl fireIfDue_keepsRanges _ s

theorem takeExpiries_keepsRanges (s : State) : s.KeepsRanges s.takeExpiries := filterDeclined_keepsRanges s _

theorem takeReached_keepsRanges (s : State) : s.KeepsRanges s.takeReached :=
  (takeFirings_keepsRanges s).trans (takeExpiries_keepsRanges _)

theorem lateFireIfPassed_keepsRanges (a b : Nat) (s : State) (h : Nat) : s.KeepsRanges (lateFireIfPassed a b s h) := by
  unfold lateFireIfPassed
  split
  · exact .ite (fireAs_keepsRanges _ _ _ _ _ _) (.refl s)
  · exact .refl s

theorem jumpSchedule_keepsRanges (s : State) (a b : Nat) : s.KeepsRanges (s.jumpSchedule a b) :=
  .ite (.trans (.foldl (lateFireIfPassed_keepsRanges a b) _ s) (filterDeclined_keepsRanges _ _)) (.refl s)

theorem evaluateSlot_keepsRanges (s : State) (h : Nat) : s.KeepsRanges (s.evaluateSlot h) := by
  unfold evaluateSlot
  split
  · exact .ite (((setSlot_keepsRanges s h _).trans (endProposal_keepsRanges _ h)).trans (post_keepsRanges _ _))
      (.refl s)
  · exact .refl s

theorem evaluateArming_keepsRanges (s : State) : s.KeepsRanges s.evaluateArming := .foldl evaluateSlot_keepsRanges _ s

theorem abandon_keepsRanges (s : State) (h : Nat) (name : Pair) (e : Entry) (r : AbandonReason) (m : StationSet) :
    s.KeepsRanges (s.abandon h name e r m) :=
  ((setSlot_keepsRanges s h none).trans (endProposal_keepsRanges _ h)).trans (post_keepsRanges _ _)

theorem abandonSlot_keepsRanges (s : State) (h : Nat) : s.KeepsRanges (s.abandonSlot h) := by
  unfold abandonSlot
  split
  · exact abandon_keepsRanges _ _ _ _ _ _
  · exact .refl s

theorem abandonPending_keepsRanges (s : State) : s.KeepsRanges s.abandonPending := .foldl abandonSlot_keepsRanges _ s

theorem deadlineIfDue_keepsRanges (s : State) (h : Nat) : s.KeepsRanges (s.deadlineIfDue h) := by
  unfold deadlineIfDue
  split
  · exact .ite (abandon_keepsRanges _ _ _ _ _ _) (.refl s)
  · exact .refl s

theorem takeDeadlines_keepsRanges (s : State) : s.KeepsRanges s.takeDeadlines := .foldl deadlineIfDue_keepsRanges _ s

theorem takePulseEnds_keepsRanges (s : State) : s.KeepsRanges s.takePulseEnds :=
  .of_still rfl id id rfl (by simp)

theorem takeOffer_keepsRanges (s : State) (p : Nat) (o : Offer) : s.KeepsRanges (s.takeOffer p o) := by
  unfold takeOffer
  split
  · exact .ite (setSlot_keepsRanges _ _ _) (.refl s)
  · exact .refl s

theorem beaconNotice_keepsRanges (s : State) (p : Nat) (offer : Option Offer) :
    s.KeepsRanges (s.beaconNotice p offer) := by
  unfold beaconNotice
  refine .trans ?_ (evaluateArming_keepsRanges _)
  split
  · exact takeOffer_keepsRanges _ _ _
  · exact .refl s

theorem makeProposal_keepsRanges (s : State) (h : Nat) (p : TriggerParams) (lines : LineSet) :
    s.KeepsRanges (s.makeProposal h p lines) := by
  unfold makeProposal
  simp only []
  refine .trans ?_ (evaluateSlot_keepsRanges _ h)
  exact .of_still rfl id id (by simp) rfl

/-- A fifth declined record makes the oldest go (R161). -/
theorem addDeclined_keepsRanges (s : State) (d : Declined) : s.KeepsRanges (s.addDeclined d) := by
  refine .of_still rfl id (fun fits => ?_) rfl rfl
  have others := (List.length_filter_le (fun r => r.name != d.name) s.schedule.declined).trans fits
  unfold addDeclined
  simp only []
  split <;> simp only [List.length_append, List.length_drop, List.length_singleton] <;> omega

theorem cancelEntry_keepsRanges (s : State) (h : Nat) (e : Entry) : s.KeepsRanges (s.cancelEntry h e) := by
  have freed := setSlot_keepsRanges s h none
  unfold cancelEntry
  simp only []
  split
  · exact freed
  · refine .trans (.trans (freed.trans (endProposal_keepsRanges _ h)) ?_) (post_keepsRanges _ _)
    exact .ite (addDeclined_keepsRanges _ _) (.refl _)

/-! ## State changes and the peer table -/

theorem enter_keepsRanges (s : State) (new : StationState) (cause : Cause) : s.KeepsRanges (s.enter new cause) := by
  have left : s.KeepsRanges (s.leftFor new) := .ite (abandonPending_keepsRanges s) (.refl s)
  rw [enter_eq cause rfl]
  exact left.trans (.of_parts rfl)

theorem acceptJoin_keepsRanges (s : State) : s.KeepsRanges s.acceptJoin :=
  have frozen : s.KeepsRanges { s with port.frozen := true, sync.holdLeft := false, sync.alignSources := 0 } :=
    .of_parts rfl
  (frozen.trans (enter_keepsRanges _ .listen .joined)).trans (.of_parts rfl)

theorem joinUnasked_keepsRanges (s : State) : s.KeepsRanges s.joinUnasked := by
  unfold joinUnasked
  split
  · exact acceptJoin_keepsRanges s
  · exact .refl s

theorem changeState_keepsRanges (s : State) (new : StationState) (cause : Cause) :
    s.KeepsRanges (s.changeState new cause) :=
  have entered := enter_keepsRanges s new cause
  .ite (entered.trans (joinUnasked_keepsRanges _)) entered

theorem isolationCheck_keepsRanges (s : State) (old : PeerState) : s.KeepsRanges (s.isolationCheck old) :=
  .ite (changeState_keepsRanges _ _ _) (.refl s)

theorem updatePeer_keepsRanges (s : State) (p : Nat) (old new : Peer) : s.KeepsRanges (s.updatePeer p old new) := by
  have replaced : s.KeepsRanges (s.setPeer p new) := .of_parts rfl
  have raised : s.KeepsRanges (s.setPeer p new).raiseMembership := .of_parts rfl
  exact .ite replaced ((raised.trans (evaluateArming_keepsRanges _)).trans (isolationCheck_keepsRanges _ _))

theorem badFrame_keepsRanges (s : State) (p : Nat) : s.KeepsRanges (s.badFrame p) := by
  unfold badFrame
  split
  · exact updatePeer_keepsRanges _ _ _ _
  · exact .refl s

theorem missedWindow_keepsRanges (s : State) (p : Nat) : s.KeepsRanges (s.missedWindow p) := by
  unfold missedWindow
  split
  · exact updatePeer_keepsRanges _ _ _ _
  · exact .refl s

theorem arrival_keepsRanges (s : State) (p : Nat) (lead : Int) (b : Beacon) : s.KeepsRanges (s.arrival p lead b) := by
  unfold arrival
  split
  · exact .refl s
  · split
    · exact .refl s
    · split
      · exact updatePeer_keepsRanges _ _ _ _
      · have noticed : ∀ u : State, s.KeepsRanges u → ∀ offer, s.KeepsRanges (u.beaconNotice p offer) :=
          fun u hu offer => hu.trans (beaconNotice_keepsRanges u p offer)
        have replaced : ∀ e, s.KeepsRanges (s.setPeer p e) := fun e => .of_parts rfl
        have raised : ∀ e, s.KeepsRanges (s.setPeer p e).raiseMembership := fun e => .of_parts rfl
        simp only []
        split
        · exact noticed _ (replaced _) _
        · exact (noticed _ (raised _) _).trans (isolationCheck_keepsRanges _ _)

/-! ## Frames and own beacons -/

theorem judgeFrame_keepsRanges (s : State) (mark : Int) (bits : List Bool) (inError : Bool) :
    s.KeepsRanges (s.judgeFrame mark bits inError) := by
  unfold judgeFrame
  split
  · exact changeState_keepsRanges _ _ _
  · exact .ite (.refl s) (badFrame_keepsRanges _ _)
  · exact .refl s
  · exact .ite (.refl s) (.of_parts rfl)
  · rename_i b _
    have heard : s.KeepsRanges { s with link.heard := addTo s.link.heard b.sender } := .of_parts rfl
    exact .ite (badFrame_keepsRanges _ _) (heard.trans (arrival_keepsRanges _ _ _ _))

end State

theorem timeOf_lt (t : Nat) : timeOf t < 2 ^ 64 := by
  unfold timeOf
  split
  · assumption
  · exact BitVec.isLt _

namespace State

theorem alignedTime_lt (s : State) (b : Beacon) (mark : Int) : s.alignedTime b mark < 2 ^ 64 := timeOf_lt _

theorem alignTime_keepsRanges (s : State) {b : Nat} (fits : b < 2 ^ 64) : s.KeepsRanges (s.alignTime b) := by
  have aligned : ∀ a : Timebase, a.KeepsRange
      { a with time := b, high := b, residue := 0, slewAmount := 0, slewBase := none, slewLeft := 0 } :=
    fun a => ⟨fun _ => ⟨le_rfl, fits⟩, fun _ => fits, id⟩
  unfold alignTime
  simp only []
  refine .trans (.trans (takeReached_keepsRanges s) (.of_timebase _ _ ?_)) (jumpSchedule_keepsRanges _ _ _)
  exact aligned s.takeReached.timebase

theorem alignTo_keepsRanges (s : State) (b : Beacon) (mark : Int) (bits : List Bool) :
    s.KeepsRanges (s.alignTo b mark bits) :=
  ((alignTime_keepsRanges s (alignedTime_lt s b mark)).trans (changeState_keepsRanges _ _ _)).trans
    (judgeFrame_keepsRanges _ _ _ _)

theorem listenFrame_keepsRanges (s : State) (mark : Int) (bits : List Bool) (inError : Bool) :
    s.KeepsRanges (s.listenFrame mark bits inError) := by
  refine .ite (.refl s) (.ite (changeState_keepsRanges _ _ _) ?_)
  split
  · exact .ite (alignTo_keepsRanges _ _ _ _) (.refl s)
  · exact .refl s

theorem endFrame_keepsRanges (s : State) (bits : List Bool) (inError : Bool) (wait : Nat) :
    s.KeepsRanges (s.endFrame bits inError wait) := by
  unfold endFrame
  split
  · exact .refl s
  · have ended : s.KeepsRanges { s with link.reception := none, link.idleIn := wait } := .of_parts rfl
    simp only []
    split
    case h_5 => exact ended.trans (listenFrame_keepsRanges _ _ _ _)
    case h_6 | h_7 => exact ended
    all_goals exact ended.trans (judgeFrame_keepsRanges _ _ _ _)

theorem beaconEnded_keepsRanges (s : State) (b : OwnBeacon) : s.KeepsRanges (s.beaconEnded b) :=
  .ite (changeState_keepsRanges _ _ _) (.refl s)

theorem sentWhole_keepsRanges (s : State) (b : OwnBeacon) : s.KeepsRanges (s.sentWhole b) :=
  have sent : s.KeepsRanges { s with
    link.beacon := none, link.overdriveRun := 0, link.completeRun := min 255 (s.link.completeRun + 1) } := .of_parts rfl
  sent.trans (beaconEnded_keepsRanges _ b)

theorem cutByOverdrive_keepsRanges (s : State) (b : OwnBeacon) : s.KeepsRanges (s.cutByOverdrive b) :=
  have cut : s.KeepsRanges { s with
    link.beacon := none, link.overdriveRun := min 3 (s.link.overdriveRun + 1), link.completeRun := 0 } := .of_parts rfl
  .ite (cut.trans (changeState_keepsRanges _ _ _)) (cut.trans (beaconEnded_keepsRanges _ b))

end State
end Sys2Proof.Machine
end

section
/-!
The ranges kept by corrections, by the instants, and as T runs (R28, R29, R32, R34, R69).
-/
namespace Sys2Proof.Machine

/-! ## The timebase at a correction, and as T runs -/

theorem clampTo_within (bound : Nat) (x : Int) : -(bound : Int) ≤ clampTo bound x ∧ clampTo bound x ≤ bound := by
  unfold clampTo
  split_ifs <;> omega

/-- A SLEW close hands over a rate trim in its range (R29, R78). -/
theorem decideCorrection_trimAfter {config : ConfigStore} {state : StationState} {trim : Int} {leads : List Int}
    {d : Decision} (decides : d = decideCorrection config state trim leads) (slew : d.action = .slew) :
    -200000 ≤ d.trimAfter ∧ d.trimAfter ≤ 200000 := by
  have clamped : d.trimAfter = match d.action with
      | .slew => clampTo trimLimit
          (roundQuotient config.rounding (64 * trim + d.correction * config.gain) 64)
      | .step | .none => trim := by rw [decides]; rfl
  rw [clamped, slew]
  exact clampTo_within trimLimit _

/-- A step lands on a 64-bit count, and a backward one below H (R30, R34). -/
theorem steppedTimebase_keepsRange (a : Timebase) (c : Int) :
    a.KeepsRange (State.steppedTimebase a c (timeOf (a.time + c).toNat)) := by
  have fits := timeOf_lt (a.time + c).toNat
  refine ⟨fun ranges => ⟨?_, fits⟩, fun high => ?_, id⟩
  · unfold State.steppedTimebase
    simp only []
    split
    · exact le_rfl
    · rw [timeOf_of_lt (by omega)]
      omega
  · unfold State.steppedTimebase
    simp only []
    split
    · exact fits
    · exact high

/-- T running on takes H with it (R30). -/
theorem Timebase.KeepsRange.run {a b : Timebase} (t : Nat) (time : b.time = timeOf t)
    (high : b.high = max a.high (timeOf t)) (trim : b.trim = a.trim) : a.KeepsRange b := by
  have fits := timeOf_lt t
  constructor <;> simp only [time, high, trim] <;> omega

namespace State

/-! ## Corrections -/

theorem stepTime_keepsRanges (s : State) (c : Int) : s.KeepsRanges (s.stepTime c) := by
  have stepped : s.takeReached.timebase.KeepsRange (steppedTimebase s.timebase c (timeOf (s.now + c).toNat)) := by
    rw [still_timebase (takeReached_still s)]
    exact steppedTimebase_keepsRange s.timebase c
  rw [stepTime_eq s c rfl]
  exact .trans (.trans (takeReached_keepsRanges s) (.of_timebase _ _ stepped)) (jumpSchedule_keepsRanges _ _ _)

theorem applyAction_keepsRanges (s : State) {d : Decision}
    (within : d.action = .slew → -200000 ≤ d.trimAfter ∧ d.trimAfter ≤ 200000) :
    s.KeepsRanges (s.applyAction d) := by
  unfold applyAction
  split
  · exact stepTime_keepsRanges s _
  · exact .of_timebase s s.link ⟨id, id, fun _ => within ‹_›⟩
  · exact .refl s

theorem recordFlags_keepsRanges (s : State) (flags : CorrFlags) : s.KeepsRanges (s.recordFlags flags) :=
  .ite (.of_parts rfl) (.of_parts rfl)

theorem writeLog_keepsRanges (s : State) (r : LogRecord) : s.KeepsRanges (s.writeLog r) :=
  ⟨id, fun _ => List.length_take_le 16 _, id, id, id, .refl _, id⟩

theorem handleResult_keepsRanges {s : State} (transmits : s.sync.state.transmits = true) (c : Int) (action : Action) :
    s.KeepsRanges (s.handleResult c action) := by
  obtain ⟨y, -, result⟩ | ⟨new, cause, z, y, -, -, -, -, -, result⟩ := handleResult_keepsOrEnters transmits c action
  · rw [result]
    exact .of_parts rfl
  · rw [result]
    have counted : s.KeepsRanges { s with sync := z } := .of_parts rfl
    exact (counted.trans (enter_keepsRanges _ new cause)).trans (.of_parts rfl)

/-- The station state does not change before a correction's result is handled (R69). -/
theorem recorded_sync (s : State) (d : Decision) (flags : CorrFlags) (r : LogRecord) :
    (((s.clearLeads.applyAction d).recordFlags flags).writeLog r).sync = s.sync := by
  rw [writeLog_recordFlags_eq]
  exact (applyAction_frame s.clearLeads d).1

theorem correct_keepsRanges {s : State} (transmits : s.sync.state.transmits = true) : s.KeepsRanges s.correct := by
  have cleared : s.KeepsRanges s.clearLeads := .of_parts rfl
  have acted := cleared.trans (applyAction_keepsRanges s.clearLeads (decideCorrection_trimAfter (d := s.decision) rfl))
  unfold correct
  refine .trans (.trans (acted.trans (recordFlags_keepsRanges _ _)) (writeLog_keepsRanges _ _))
    (handleResult_keepsRanges ?_ _ _)
  rw [recorded_sync]
  exact transmits

/-! ## Instants -/

theorem takeOwnSend_keepsRanges (s : State) : s.KeepsRanges s.takeOwnSend :=
  .ite (.ite (.of_parts rfl) (.of_parts rfl)) (.refl s)

theorem takeWindowClose_keepsRanges (s : State) : s.KeepsRanges s.takeWindowClose := by
  have marked : s.KeepsRanges s.markTaken := .of_parts rfl
  unfold takeWindowClose
  split
  · exact .ite (marked.trans (missedWindow_keepsRanges _ _)) marked
  all_goals exact .refl s

theorem takeEpochClose_keepsRanges (s : State) : s.KeepsRanges s.takeEpochClose := by
  have emptied : s.KeepsRanges { s.markTaken with link.heard := 0 } := .of_parts rfl
  unfold takeEpochClose
  simp only []
  split
  · split
    · exact emptied.trans (correct_keepsRanges ‹_›)
    · exact emptied
  · exact .refl s

theorem takeListenDeadline_keepsRanges (s : State) : s.KeepsRanges s.takeListenDeadline :=
  .ite (changeState_keepsRanges _ _ _) (.refl s)

theorem advanceTime_keepsRanges (s : State) (d : Nat) : s.KeepsRanges (s.advanceTime d) :=
  ⟨id, id, id, id, fun four => by simpa [advanceTime] using four, .run (s.now + d) rfl rfl rfl, id⟩

theorem slewUnit_keepsRanges (s : State) : s.KeepsRanges s.slewUnit := by
  have counted : ∀ (left residue : Int), s.KeepsRanges
      { s with timebase := { s.timebase with slewLeft := left, residue := residue } } :=
    fun _ _ => .of_timebase s s.link (.of_eq rfl rfl rfl)
  unfold slewUnit
  exact .ite (.ite ((counted _ s.timebase.residue).trans (advanceTime_keepsRanges _ 1)) (counted _ _)) (counted _ _)

theorem takeSlewPoint_keepsRanges (s : State) : s.KeepsRanges s.takeSlewPoint :=
  .ite (slewUnit_keepsRanges s) (.refl s)

/-- What stands at T is taken up to the epoch close, before the ends of pulses (log 3). -/
def settleInstants (s : State) : State :=
  s.takeFirings.takeDeadlines.takeExpiries.takeListenDeadline.takeOwnSend.takeWindowClose.takeEpochClose

theorem settleStanding_eq (s : State) : s.settleStanding = s.settleInstants.takePulseEnds := rfl

theorem settleInstants_keepsRanges (s : State) : s.KeepsRanges s.settleInstants :=
  have abandoned := (takeFirings_keepsRanges s).trans (takeDeadlines_keepsRanges _)
  have founded := (abandoned.trans (takeExpiries_keepsRanges _)).trans (takeListenDeadline_keepsRanges _)
  have judged := (founded.trans (takeOwnSend_keepsRanges _)).trans (takeWindowClose_keepsRanges _)
  judged.trans (takeEpochClose_keepsRanges _)

theorem settleStanding_keepsRanges (s : State) : s.KeepsRanges s.settleStanding :=
  (settleInstants_keepsRanges s).trans (takePulseEnds_keepsRanges _)

theorem takeSlewRow_keepsRanges (s : State) : s.KeepsRanges s.takeSlewRow :=
  .ite ((settleStanding_keepsRanges s).trans (takeSlewPoint_keepsRanges _)) (takeSlewPoint_keepsRanges s)

theorem settle_keepsRanges (s : State) : s.KeepsRanges s.settle :=
  (settleStanding_keepsRanges s).trans (takeSlewRow_keepsRanges _)

/-! ## The running of T -/

theorem settleAll_keepsRanges (fuel : Nat) (s : State) : s.KeepsRanges (settleAll fuel s) := by
  induction fuel generalizing s with
  | zero => exact .refl s
  | succ fuel ih => exact .ite ((settle_keepsRanges s).trans (ih _)) (.refl s)

theorem beginPeriod_keepsRanges (s : State) : s.KeepsRanges s.beginPeriod :=
  have begun : ∀ (u : State) (left : Nat), u.KeepsRanges { u with timebase.periodLeft := left } :=
    fun u _ => .of_timebase u u.link (.of_eq rfl rfl rfl)
  .ite ((settleAll_keepsRanges 4 s).trans (begun _ _)) (.refl s)

theorem runNs_keepsRanges (s : State) (d : Nat) : s.KeepsRanges (s.runNs d) :=
  (advanceTime_keepsRanges s d).trans (.of_timebase _ _ (.of_eq rfl rfl rfl))

theorem endPeriod_keepsRanges (s : State) : s.KeepsRanges s.endPeriod :=
  .of_timebase s s.link (.of_eq rfl rfl rfl)

theorem runPeriod_keepsRanges (fuel : Nat) (stop : Option Nat) (s : State) :
    s.KeepsRanges (runPeriod fuel stop s) := by
  induction fuel generalizing stop s with
  | zero => exact .refl s
  | succ fuel ih =>
    exact .ite (.refl s) (.ite ((settle_keepsRanges s).trans (ih _ _))
      (.ite (endPeriod_keepsRanges s) ((runNs_keepsRanges s _).trans (ih _ _))))

end State
end Sys2Proof.Machine
end

section
/-!
The ranges kept by the commands, the pins, the starts and every row, and so by every step.
-/
namespace Sys2Proof.Machine
namespace State

/-! ## Transactions and their answers -/

theorem transaction_keepsRanges {s : State} {take : State → State} (taken : s.KeepsRanges (take s)) :
    s.KeepsRanges (s.transaction take) :=
  .ite (.refl s) (.ite (.of_parts rfl) taken)

theorem command_keepsRanges {s : State} (code : Byte) {act : State → Answer} (acted : s.KeepsRanges (act s).after) :
    s.KeepsRanges (s.command code act) :=
  have answered : (act s).after.KeepsRanges (s.respond code (act s)) := .of_parts rfl
  transaction_keepsRanges (acted.trans answered)

theorem popAnswer_keepsRanges (s : State) : s.KeepsRanges s.popAnswer.after := by
  unfold popAnswer
  split
  · rename_i r rest queue
    have shorter : rest.length ≤ s.capture.queue.length := by simp [queue]
    exact .of_still rfl shorter.trans id rfl rfl
  · exact .refl s

/-- CONFIGURE takes a value in the parameter's range alone (R185, R186). -/
theorem configureAnswer_keepsRanges (s : State) (ident : Byte) (value : Nat) :
    s.KeepsRanges (s.configureAnswer ident value).after := by
  unfold configureAnswer
  split
  · exact .refl s
  · split_ifs with named frozen dormant accepted
    case neg =>
      exact ⟨id, id, id, id, id, .refl _, fun held q => ConfigStore.accepts_get_set _ (by simpa using accepted) held q⟩
    all_goals exact .refl s

theorem maskAnswer_keepsRanges (s : State) (mask enables : Byte) : s.KeepsRanges (s.maskAnswer mask enables).after := by
  unfold maskAnswer
  split
  · exact .of_parts rfl
  all_goals exact .refl s

theorem clearAnswer_keepsRanges (s : State) (alertFlags corrFlags : Byte) :
    s.KeepsRanges (s.clearAnswer alertFlags corrFlags).after := by
  unfold clearAnswer
  split
  · exact .of_parts rfl
  all_goals exact .refl s

theorem joinAnswer_keepsRanges (s : State) : s.KeepsRanges s.joinAnswer.after := by
  unfold joinAnswer
  split
  · exact .refl s
  · exact acceptJoin_keepsRanges s

theorem leaveSecurely_keepsRanges (s : State) (cause : Cause) : s.KeepsRanges (s.leaveSecurely cause) := by
  unfold leaveSecurely
  split
  case h_1 | h_2 | h_3 | h_4 => exact changeState_keepsRanges _ _ _
  all_goals exact .refl s

theorem leaveFast_keepsRanges (s : State) (cause : Cause) : s.KeepsRanges (s.leaveFast cause) := by
  unfold leaveFast
  split
  case h_6 | h_7 => exact .refl s
  all_goals exact changeState_keepsRanges _ _ _

theorem leaveSecureAnswer_keepsRanges (s : State) (mode : Byte) : s.KeepsRanges (s.leaveSecureAnswer mode).after := by
  have dropped : s.KeepsRanges s.dropMarker := .of_parts rfl
  unfold leaveSecureAnswer
  split_ifs
  · exact .refl s
  · exact .refl s
  · exact dropped.trans (leaveSecurely_keepsRanges _ _)

theorem leaveFastAnswer_keepsRanges (s : State) : s.KeepsRanges s.leaveFastAnswer.after := by
  have dropped : s.KeepsRanges s.dropMarker := .of_parts rfl
  unfold leaveFastAnswer
  split
  · exact .refl s
  · exact dropped.trans (leaveFast_keepsRanges _ _)

theorem releaseAnswer_keepsRanges (s : State) (station : Nat) : s.KeepsRanges (s.releaseAnswer station).after := by
  unfold releaseAnswer
  split
  · exact .refl s
  · split
    · exact updatePeer_keepsRanges _ _ _ _
    · exact .refl s

theorem scheduleAnswer_keepsRanges (s : State) (p : TriggerParams) (options : Byte) :
    s.KeepsRanges (s.scheduleAnswer p options).after := by
  unfold scheduleAnswer
  repeat' split
  case h_2 => exact setSlot_keepsRanges _ _ _
  all_goals exact .refl s

theorem proposeAnswer_keepsRanges (s : State) (p : TriggerParams) : s.KeepsRanges (s.proposeAnswer p).after := by
  unfold proposeAnswer
  repeat' split
  case h_2.isFalse.isFalse.isFalse => exact makeProposal_keepsRanges _ _ _ _
  all_goals exact .refl s

theorem cancelAnswer_keepsRanges (s : State) (handle : Byte) : s.KeepsRanges (s.cancelAnswer handle).after := by
  unfold cancelAnswer
  split
  · exact .refl s
  · split
    · exact cancelEntry_keepsRanges _ _ _
    · exact .refl s

/-! ## Pins and starts -/

theorem holdAsserted_keepsRanges (s : State) : s.KeepsRanges s.holdAsserted := by
  have marked : s.KeepsRanges { s with sync.holdLeft := true } := .of_parts rfl
  unfold holdAsserted
  split
  · exact .refl s
  · split
    case h_5 | h_6 | h_7 => exact .refl s
    all_goals exact marked.trans (leaveSecurely_keepsRanges _ _)
  · split
    case h_6 | h_7 => exact .refl s
    case h_5 => exact leaveFast_keepsRanges _ _
    all_goals exact marked.trans (leaveFast_keepsRanges _ _)

theorem holdReleased_keepsRanges (s : State) : s.KeepsRanges s.holdReleased :=
  .ite (joinUnasked_keepsRanges s) (.refl s)

theorem captureEdge_keepsRanges (s : State) (input : Fin 2) : s.KeepsRanges (s.captureEdge input) := by
  have set : ∀ c, s.KeepsRanges (s.setCapture input c) := fun c => .ite (.of_parts rfl) (.of_parts rfl)
  unfold captureEdge
  exact .ite ((set _).trans (post_keepsRanges _ _)) (set _)

theorem startValues_keepsRanges (s : State) (cause : StartCause) (pins : Pins) (csnLow : Bool) :
    s.KeepsRanges (s.startValues cause pins csnLow) :=
  have started : s.timebase.KeepsRange Timebase.start :=
    ⟨fun _ => by decide, fun _ => by decide, fun _ => by decide⟩
  ⟨fun _ => by simp [startValues, Capture.start], fun _ => by simp [startValues, CorrectionUnit.start],
    fun _ => by simp [startValues, Schedule.start], fun _ => by simp [startValues, Schedule.start],
    fun _ => by simp [startValues, Schedule.start], started, fun _ => ConfigStore.defaults_accepted⟩

theorem finishStart_keepsRanges (s : State) (cause : StartCause) (pins : Pins) (csnLow : Bool) :
    s.KeepsRanges (s.finishStart cause pins csnLow) :=
  (startValues_keepsRanges s cause pins csnLow).trans
    (.ite (changeState_keepsRanges _ _ _) (.ite (joinUnasked_keepsRanges _) (.refl _)))

/-- T is held at 0, below H, and the schedule is emptied (R139, R196). -/
theorem beginStart_keepsRanges (s : State) (cause : StartCause) : s.KeepsRanges (s.beginStart cause) :=
  have held : s.timebase.KeepsRange { s.timebase with time := 0 } :=
    ⟨fun _ => ⟨Nat.zero_le _, Nat.two_pow_pos 64⟩, id, id⟩
  ⟨id, id, fun _ => by simp [Schedule.start], fun _ => by simp [Schedule.start], fun _ => by simp [Schedule.start],
    held, id⟩

/-- What a row does only while no start is in progress (R196). -/
theorem running_keepsRanges {s u : State} (acted : s.KeepsRanges u) : s.KeepsRanges (if s.running then u else s) :=
  .ite acted (.refl s)

end State

/-! ## Every row -/

/-- Every row keeps the ranges. -/
theorem exec_keepsRanges (c : Instr) {s t : State} (run : exec c s = .next t) : s.KeepsRanges t := by
  cases c with
  | readStatus | readConfig | readTime | readEntry | readSchedule | readPeer | readLog | unknownCommand =>
    cases run; exact State.command_keepsRanges _ (.refl s)
  | popEvent => cases run; exact State.command_keepsRanges _ (State.popAnswer_keepsRanges s)
  | configure => cases run; exact State.command_keepsRanges _ (State.configureAnswer_keepsRanges s _ _)
  | setAlertMask => cases run; exact State.command_keepsRanges _ (State.maskAnswer_keepsRanges s _ _)
  | clear => cases run; exact State.command_keepsRanges _ (State.clearAnswer_keepsRanges s _ _)
  | join => cases run; exact State.command_keepsRanges _ (State.joinAnswer_keepsRanges s)
  | leaveSecure => cases run; exact State.command_keepsRanges _ (State.leaveSecureAnswer_keepsRanges s _)
  | leaveFast => cases run; exact State.command_keepsRanges _ (State.leaveFastAnswer_keepsRanges s)
  | schedule => cases run; exact State.command_keepsRanges _ (State.scheduleAnswer_keepsRanges s _ _)
  | propose => cases run; exact State.command_keepsRanges _ (State.proposeAnswer_keepsRanges s _)
  | cancel => cases run; exact State.command_keepsRanges _ (State.cancelAnswer_keepsRanges s _)
  | release => cases run; exact State.command_keepsRanges _ (State.releaseAnswer_keepsRanges s _)
  | restart pins =>
    cases run
    exact State.transaction_keepsRanges ((State.finishStart_keepsRanges s .command pins false).trans (.of_parts rfl))
  | response | transactionDiscarded => cases run; exact State.transaction_keepsRanges (.of_parts rfl)
  | powerOn | resetnFall => cases run; exact State.beginStart_keepsRanges s _
  | startEnd pins csnLow =>
    cases run
    split
    · exact State.finishStart_keepsRanges s _ pins csnLow
    · exact .refl s
  | holdAssertion =>
    cases run
    have raised : s.KeepsRanges { s with port.holdLevel := true } := .of_parts rfl
    exact .ite (raised.trans (State.holdAsserted_keepsRanges _)) (.refl s)
  | holdRelease =>
    cases run
    have lowered : s.KeepsRanges { s with port.holdLevel := false } := .of_parts rfl
    exact .ite (lowered.trans (State.holdReleased_keepsRanges _)) (.refl s)
  | capEdge => cases run; exact State.running_keepsRanges (State.captureEdge_keepsRanges s _)
  | frameEnd | receiveTimeout => cases run; exact State.running_keepsRanges (State.endFrame_keepsRanges s _ _ _)
  | overdrive =>
    change execOverdrive s = .next t at run
    unfold execOverdrive at run
    split at run
    · cases run; exact State.running_keepsRanges (State.cutByOverdrive_keepsRanges s _)
    · cases run; exact .refl s
  | beaconSentWhole =>
    change execBeaconSentWhole s = .next t at run
    unfold execBeaconSentWhole at run
    split at run
    · cases run; exact State.running_keepsRanges (State.sentWhole_keepsRanges s _)
    · cases run; exact .refl s
  | ownSendInstant => cases run; exact State.running_keepsRanges (State.takeOwnSend_keepsRanges s)
  | windowClose => cases run; exact State.running_keepsRanges (State.takeWindowClose_keepsRanges s)
  | epochClose => cases run; exact State.running_keepsRanges (State.takeEpochClose_keepsRanges s)
  | slewPoint => cases run; exact State.running_keepsRanges (State.takeSlewRow_keepsRanges s)
  | triggerFire handle => cases run; exact State.running_keepsRanges (State.fireIfDue_keepsRanges s handle)
  | sharedDeadline handle => cases run; exact State.running_keepsRanges (State.deadlineIfDue_keepsRanges s handle)
  | listenDeadline => cases run; exact State.running_keepsRanges (State.takeListenDeadline_keepsRanges s)
  | declinedExpiry => cases run; exact State.running_keepsRanges (State.takeExpiries_keepsRanges s)
  | pulseEnd => cases run; exact State.running_keepsRanges (.of_still rfl id id rfl (by simp))
  | startOfFrame => cases run; exact .ite (.of_parts rfl) (.refl s)
  | referencePeriod stop =>
    cases run
    exact State.running_keepsRanges
      ((State.beginPeriod_keepsRanges s).trans (State.runPeriod_keepsRanges 128 stop _))

theorem step_keepsRanges {s t : State} (run : step s = .next t) : s.KeepsRanges t := by
  unfold step at run
  split at run
  · cases run
    exact .refl s
  · rename_i rest _
    have dequeued : s.KeepsRanges { s with pending := rest } := .of_parts rfl
    exact dequeued.trans (exec_keepsRanges _ run)

/-- Settles O55: every row keeps the relation `KeepsRanges`, operation by operation. -/
theorem stepKeepsRanges : Obligations.StepKeepsRanges := by
  rintro s t ⟨queue, log, declined, slots, lines⟩ ⟨reached, high, trimLow, trimHigh⟩ config run
  have keeps := step_keepsRanges run
  obtain ⟨time, -⟩ := keeps.timebase.reached ⟨reached, by omega⟩
  exact ⟨⟨keeps.queue queue, keeps.log log, keeps.declined declined, keeps.slots slots, keeps.lines lines⟩,
    ⟨time, keeps.timebase.high high, keeps.timebase.trim ⟨trimLow, trimHigh⟩⟩, keeps.config config⟩

end Sys2Proof.Machine
end

section
/-!
What moves T and H: the timebase that an epoch close leaves, and the rows that leave the timebase as it stands (R34,
R35, R36).
-/
namespace Sys2Proof.Machine
namespace State

/-! ## The timebase at an epoch close (R34, R69) -/

/-- A correction moves the timebase by its action alone (R69). -/
theorem correct_timebase {s : State} (transmits : s.sync.state.transmits = true) :
    s.correct.timebase = (s.clearLeads.applyAction s.decision).timebase := by
  have state : ∀ r, (((s.clearLeads.applyAction s.decision).recordFlags s.decision.flags).writeLog
      r).sync.state.transmits = true := fun r => by rw [recorded_sync]; exact transmits
  obtain ⟨handled, -⟩ := keepsOrEnters_effect
    (handleResult_keepsOrEnters (state _) s.decision.correction s.decision.action)
  unfold correct
  rw [handled, writeLog_recordFlags_eq]

theorem stepTime_timebase (s : State) (c : Int) :
    (s.stepTime c).timebase = steppedTimebase s.timebase c (timeOf (s.now + c).toNat) :=
  (offSchedule_timebase (stepTime_offSchedule s c rfl) :)

/-- No action but a step moves T or H (R34, R35). -/
theorem applyAction_time {s : State} {d : Decision} (noStep : d.action ≠ .step) :
    (s.applyAction d).timebase.time = s.timebase.time ∧ (s.applyAction d).timebase.high = s.timebase.high := by
  unfold applyAction
  split
  · exact absurd ‹_› noStep
  · exact ⟨rfl, rfl⟩
  · exact ⟨rfl, rfl⟩

theorem correct_time {s : State} (transmits : s.sync.state.transmits = true) (outside : s.sync.state ≠ .acquire) :
    s.correct.timebase.time = s.timebase.time ∧ s.correct.timebase.high = s.timebase.high := by
  rw [correct_timebase transmits]
  exact applyAction_time (s := s.clearLeads) fun step => outside (acquire_of_step step)

theorem takeEpochClose_time {s : State} (outside : s.sync.state ≠ .acquire) :
    s.takeEpochClose.timebase.time = s.timebase.time ∧ s.takeEpochClose.timebase.high = s.timebase.high := by
  unfold takeEpochClose
  simp only []
  split
  · split
    · exact correct_time (s := { s.markTaken with link.heard := 0 }) ‹_› outside
    · exact ⟨rfl, rfl⟩
  · exact ⟨rfl, rfl⟩

/-! ## What leaves the timebase as it stands -/

theorem ite_timebase {s t u : State} {p : Prop} [Decidable p] (first : t.timebase = s.timebase)
    (second : u.timebase = s.timebase) : (if p then t else u).timebase = s.timebase :=
  iteInduction (motive := fun v : State => v.timebase = s.timebase) (fun _ => first) fun _ => second

theorem changeState_timebase (s : State) (new : StationState) (cause : Cause) :
    (s.changeState new cause).timebase = s.timebase := still_timebase (changeState_still s new cause)

/-- A frame's end outside LISTEN, or of a frame in error (R15, R19, R36). -/
theorem endFrame_timebase (s : State) (bits : List Bool) (inError : Bool) (wait : Nat)
    (noAlignment : s.sync.state = .listen → inError = true) :
    (s.endFrame bits inError wait).timebase = s.timebase := by
  unfold endFrame
  split
  · rfl
  · rename_i r _
    have judged : ({ s with link.reception := none, link.idleIn := wait }.judgeFrame r.correctedMark bits
        inError).timebase = s.timebase :=
      still_timebase (judgeFrame_still { s with link.reception := none, link.idleIn := wait } _ _ _)
    simp only []
    split
    case h_5 listening =>
      rw [listenFrame_fails (by simp [framePasses, noAlignment listening])]
    case h_6 | h_7 => rfl
    all_goals exact judged

theorem beaconEnded_timebase (s : State) (b : OwnBeacon) : (s.beaconEnded b).timebase = s.timebase :=
  still_timebase (beaconEnded_still s b)

theorem cutByOverdrive_timebase (s : State) (b : OwnBeacon) : (s.cutByOverdrive b).timebase = s.timebase :=
  ite_timebase (changeState_timebase _ _ _) (beaconEnded_timebase _ _)

theorem takeWindowClose_timebase (s : State) : s.takeWindowClose.timebase = s.timebase := by
  unfold takeWindowClose
  split
  · exact ite_timebase (still_timebase (missedWindow_still s.markTaken _)) rfl
  all_goals rfl

theorem takeOwnSend_timebase (s : State) : s.takeOwnSend.timebase = s.timebase :=
  ite_timebase (ite_timebase rfl rfl) rfl

theorem captureEdge_timebase (s : State) (input : Fin 2) : (s.captureEdge input).timebase = s.timebase := by
  have set : ∀ c, (s.setCapture input c).timebase = s.timebase := fun c => ite_timebase rfl rfl
  unfold captureEdge
  exact ite_timebase ((still_timebase (post_still _ _)).trans (set _)) (set _)

theorem leaveSecurely_timebase (s : State) (cause : Cause) : (s.leaveSecurely cause).timebase = s.timebase := by
  unfold leaveSecurely
  split
  case h_1 | h_2 | h_3 | h_4 => exact changeState_timebase _ _ _
  all_goals rfl

theorem leaveFast_timebase (s : State) (cause : Cause) : (s.leaveFast cause).timebase = s.timebase := by
  unfold leaveFast
  split
  case h_6 | h_7 => rfl
  all_goals exact changeState_timebase _ _ _

theorem holdAsserted_timebase (s : State) : s.holdAsserted.timebase = s.timebase := by
  unfold holdAsserted
  split
  · rfl
  · split
    case h_5 | h_6 | h_7 => rfl
    all_goals exact leaveSecurely_timebase { s with sync.holdLeft := true } _
  · split
    case h_6 | h_7 => rfl
    case h_5 => exact leaveFast_timebase _ _
    all_goals exact leaveFast_timebase { s with sync.holdLeft := true } _

theorem holdReleased_timebase (s : State) : s.holdReleased.timebase = s.timebase :=
  ite_timebase (still_timebase (joinUnasked_still s)) rfl

/-! ## Commands -/

theorem transaction_timebase {s : State} {take : State → State} (taken : (take s).timebase = s.timebase) :
    (s.transaction take).timebase = s.timebase :=
  ite_timebase rfl (ite_timebase rfl taken)

theorem command_timebase {s : State} (code : Byte) {act : State → Answer}
    (acted : (act s).after.timebase = s.timebase) : (s.command code act).timebase = s.timebase :=
  transaction_timebase acted

theorem popAnswer_timebase (s : State) : s.popAnswer.after.timebase = s.timebase := by
  unfold popAnswer
  split <;> rfl

theorem configureAnswer_timebase (s : State) (ident : Byte) (value : Nat) :
    (s.configureAnswer ident value).after.timebase = s.timebase := by
  unfold configureAnswer
  split
  · rfl
  · split_ifs <;> rfl

theorem maskAnswer_timebase (s : State) (mask enables : Byte) :
    (s.maskAnswer mask enables).after.timebase = s.timebase := by
  unfold maskAnswer
  split <;> rfl

theorem clearAnswer_timebase (s : State) (alertFlags corrFlags : Byte) :
    (s.clearAnswer alertFlags corrFlags).after.timebase = s.timebase := by
  unfold clearAnswer
  split <;> rfl

theorem joinAnswer_timebase (s : State) : s.joinAnswer.after.timebase = s.timebase := by
  unfold joinAnswer
  split
  · rfl
  · exact still_timebase (acceptJoin_still s)

theorem leaveSecureAnswer_timebase (s : State) (mode : Byte) :
    (s.leaveSecureAnswer mode).after.timebase = s.timebase := by
  unfold leaveSecureAnswer
  split_ifs
  · rfl
  · rfl
  · exact leaveSecurely_timebase s.dropMarker _

theorem leaveFastAnswer_timebase (s : State) : s.leaveFastAnswer.after.timebase = s.timebase := by
  unfold leaveFastAnswer
  split
  · rfl
  · exact leaveFast_timebase s.dropMarker _

theorem scheduleAnswer_timebase (s : State) (p : TriggerParams) (options : Byte) :
    (s.scheduleAnswer p options).after.timebase = s.timebase := by
  unfold scheduleAnswer
  repeat' split
  all_goals rfl

theorem proposeAnswer_timebase (s : State) (p : TriggerParams) : (s.proposeAnswer p).after.timebase = s.timebase := by
  unfold proposeAnswer
  repeat' split
  case h_2.isFalse.isFalse.isFalse => exact offSchedule_timebase (makeProposal_offSchedule _ _ _ _)
  all_goals rfl

theorem cancelAnswer_timebase (s : State) (handle : Byte) : (s.cancelAnswer handle).after.timebase = s.timebase := by
  unfold cancelAnswer
  split
  · rfl
  · split
    · exact offSchedule_timebase (cancelEntry_offSchedule _ _ _)
    · rfl

theorem releaseAnswer_timebase (s : State) (station : Nat) :
    (s.releaseAnswer station).after.timebase = s.timebase := by
  unfold releaseAnswer
  split
  · rfl
  · split
    · exact still_timebase (updatePeer_still _ _ _ _)
    · rfl

end State

/-- A row that begins or ends no start, lets T run in no way, and makes neither a correction nor an alignment leaves the
timebase as it stands (R35). -/
theorem exec_timebase {c : Instr} {s t : State} (run : exec c s = .next t) (noRestart : isRestart c = false)
    (noStart : isStartRow c = false) (noRunning : runsTime c = false) (noClose : c ≠ .epochClose)
    (noAlignment : ∀ bits inError, c = .frameEnd bits inError → s.sync.state ≠ .listen) :
    t.timebase = s.timebase := by
  cases c with
  | powerOn | resetnFall | startEnd => cases noStart
  | restart => cases noRestart
  | slewPoint | referencePeriod => cases noRunning
  | epochClose => exact absurd rfl noClose
  | readStatus | readConfig | readTime | readEntry | readSchedule | readPeer | readLog | unknownCommand =>
    cases run; exact State.command_timebase _ rfl
  | popEvent => cases run; exact State.command_timebase _ (State.popAnswer_timebase s)
  | configure => cases run; exact State.command_timebase _ (State.configureAnswer_timebase s _ _)
  | setAlertMask => cases run; exact State.command_timebase _ (State.maskAnswer_timebase s _ _)
  | clear => cases run; exact State.command_timebase _ (State.clearAnswer_timebase s _ _)
  | join => cases run; exact State.command_timebase _ (State.joinAnswer_timebase s)
  | leaveSecure => cases run; exact State.command_timebase _ (State.leaveSecureAnswer_timebase s _)
  | leaveFast => cases run; exact State.command_timebase _ (State.leaveFastAnswer_timebase s)
  | schedule => cases run; exact State.command_timebase _ (State.scheduleAnswer_timebase s _ _)
  | propose => cases run; exact State.command_timebase _ (State.proposeAnswer_timebase s _)
  | cancel => cases run; exact State.command_timebase _ (State.cancelAnswer_timebase s _)
  | release => cases run; exact State.command_timebase _ (State.releaseAnswer_timebase s _)
  | response | transactionDiscarded => cases run; exact State.transaction_timebase rfl
  | holdAssertion =>
    cases run; exact State.ite_timebase (State.holdAsserted_timebase { s with port.holdLevel := true }) rfl
  | holdRelease =>
    cases run; exact State.ite_timebase (State.holdReleased_timebase { s with port.holdLevel := false }) rfl
  | capEdge => cases run; exact State.ite_timebase (State.captureEdge_timebase s _) rfl
  | frameEnd bits inError =>
    cases run
    exact State.ite_timebase
      (State.endFrame_timebase s _ _ _ fun listening => absurd listening (noAlignment bits inError rfl)) rfl
  | receiveTimeout => cases run; exact State.ite_timebase (State.endFrame_timebase s _ _ _ fun _ => rfl) rfl
  | overdrive =>
    change execOverdrive s = .next t at run
    unfold execOverdrive at run
    split at run
    · cases run; exact State.ite_timebase (State.cutByOverdrive_timebase s _) rfl
    · cases run; rfl
  | beaconSentWhole =>
    change execBeaconSentWhole s = .next t at run
    unfold execBeaconSentWhole at run
    split at run
    · cases run; exact State.ite_timebase (State.still_timebase (State.sentWhole_still s _)) rfl
    · cases run; rfl
  | ownSendInstant => cases run; exact State.ite_timebase (State.takeOwnSend_timebase s) rfl
  | windowClose => cases run; exact State.ite_timebase (State.takeWindowClose_timebase s) rfl
  | triggerFire handle =>
    cases run; exact State.ite_timebase (State.still_timebase (State.fireIfDue_still s handle)) rfl
  | sharedDeadline handle =>
    cases run; exact State.ite_timebase (State.still_timebase (State.deadlineIfDue_still s handle)) rfl
  | listenDeadline =>
    cases run; exact State.ite_timebase (State.still_timebase (State.takeListenDeadline_still s)) rfl
  | declinedExpiry | pulseEnd | startOfFrame => cases run; exact State.ite_timebase rfl rfl

/-- Settles O53: outside ACQUIRE an epoch close makes no step, and every other row named leaves the timebase. -/
theorem onlyTheNamedRowsMoveTime : Obligations.OnlyTheNamedRowsMoveTime := by
  intro c s t run noRestart noStart noRunning outside noAlignment
  by_cases close : c = .epochClose
  · subst close
    cases run
    exact iteInduction
      (motive := fun u : State => u.timebase.time = s.timebase.time ∧ u.timebase.high = s.timebase.high)
      (fun _ => State.takeEpochClose_time (outside rfl)) fun _ => ⟨rfl, rfl⟩
  · have kept := exec_timebase run noRestart noStart noRunning close noAlignment
    rw [kept]
    exact ⟨rfl, rfl⟩

end Sys2Proof.Machine
end

section
/-!
Slew points: what stands at T beside the slew unit, and the unit applied (R31, R32).
-/
namespace Sys2Proof.Machine
namespace State

/-! ## Where nothing but a slew unit stands at T -/

theorem entry_eq_some {s : State} {h : Nat} {e : Entry} : s.entry h = some e ↔ s.holds h e := by
  unfold entry holds
  cases s.schedule.slots[h]? <;> simp

theorem fireIfDue_of_not_due {s : State} {h : Nat}
    (notDue : ∀ e, s.holds h e → e.state = .armed → e.nextFire ≠ s.now) : s.fireIfDue h = s := by
  unfold fireIfDue
  split
  · rename_i e held
    exact if_neg fun due => notDue e (entry_eq_some.1 held) due.1 due.2
  · rfl

theorem deadlineIfDue_of_not_due {s : State} {h : Nat}
    (notDue : ∀ e, s.holds h e → e.state = .pending → e.deadline ≠ some s.now) : s.deadlineIfDue h = s := by
  unfold deadlineIfDue
  split
  · rename_i name e pending
    obtain ⟨held, -, state⟩ := pendingEntry_eq_some.1 pending
    exact if_neg (notDue e held state)
  · rfl

theorem takeExpiries_of_not_due {s : State} (notDue : ∀ d ∈ s.schedule.declined, d.expiry ≠ s.now) :
    s.takeExpiries = s := by
  have kept : s.schedule.declined.filter (fun d => d.expiry != s.now) = s.schedule.declined :=
    List.filter_eq_self.2 fun d hd => by simpa using notDue d hd
  unfold takeExpiries
  rw [kept]

theorem takePulseEnds_of_not_due {s : State} (notDue : ∀ l ∈ s.schedule.lines, l.remaining = 0 → l.active = false) :
    s.takePulseEnds = s := by
  have kept : s.schedule.lines.map Line.ended = s.schedule.lines := by
    refine (List.map_congr_left fun l hl => ?_).trans (List.map_id' _)
    unfold Line.ended
    split
    · rw [← notDue l hl ‹_›]
    · rfl
  unfold takePulseEnds
  rw [kept]

theorem takeListenDeadline_of_not_due {s : State}
    (notDue : s.sync.state = .listen → s.sync.listenDeadline ≠ some s.now) : s.takeListenDeadline = s :=
  if_neg fun due => notDue due.1 due.2

section
variable {s : State} (taken : s.untakenInstant = none)
include taken

theorem takeOwnSend_of_taken : s.takeOwnSend = s := by simp [takeOwnSend, taken]

theorem takeWindowClose_of_taken : s.takeWindowClose = s := by simp [takeWindowClose, taken]

theorem takeEpochClose_of_taken : s.takeEpochClose = s := by simp [takeEpochClose, taken]

end

/-- Where no instant but a slew point stands at T, there is nothing to take before it (log 8). -/
theorem onlySlewStands.settleStanding {s : State} (only : s.onlySlewStands) : s.settleStanding = s := by
  obtain ⟨window, entries, declined, listen, lines⟩ := only
  have taken : s.untakenInstant = none := by
    unfold untakenInstant
    split
    · exact window ‹_›
    · rfl
  have firings : s.takeFirings = s :=
    List.foldl_fixed' (fun h => fireIfDue_of_not_due fun e held => (entries h e held).1) _
  have deadlines : s.takeDeadlines = s :=
    List.foldl_fixed' (fun h => deadlineIfDue_of_not_due fun e held => (entries h e held).2) _
  rw [State.settleStanding, firings, deadlines, takeExpiries_of_not_due declined, takeListenDeadline_of_not_due listen,
    takeOwnSend_of_taken taken, takeWindowClose_of_taken taken, takeEpochClose_of_taken taken,
    takePulseEnds_of_not_due lines]

/-! ## The slew point (R31, R32) -/

theorem slewDue_iff (s : State) : s.slewDue = true ↔ s.nextSlewPoint = some s.now := by simp [slewDue]

/-- While units remain the slew point of the next one lies where R31 puts it. -/
theorem nextSlewPoint_of_base {s : State} {base : Nat} (begun : s.timebase.slewBase = some base)
    (remains : s.timebase.slewLeft ≠ 0) : s.nextSlewPoint =
      some (base + (s.timebase.slewAmount.natAbs - s.timebase.slewLeft.natAbs + 1) * s.epochLen
        / (s.timebase.slewAmount.natAbs + 1)) := by
  simp [nextSlewPoint, begun, remains]

theorem takeSlewRow_of_not_due {s : State} (notDue : s.nextSlewPoint ≠ some s.now) : s.takeSlewRow = s := by
  have off : s.slewDue = false := by simpa [slewDue] using notDue
  simp [takeSlewRow, takeSlewPoint, off]

/-- A negative unit does not move T, so nothing is taken before it (R32; log 8). -/
theorem takeSlewRow_negative {s : State} (due : s.nextSlewPoint = some s.now) (negative : s.timebase.slewLeft < 0) :
    s.takeSlewRow = s.slewUnit := by
  have on := (slewDue_iff s).2 due
  have back : ¬ 0 < s.timebase.slewLeft := by omega
  simp [takeSlewRow, takeSlewPoint, on, back]

theorem takeSlewRow_positive {s : State} (due : s.nextSlewPoint = some s.now) (only : s.onlySlewStands) :
    s.takeSlewRow = s.slewUnit := by
  have on := (slewDue_iff s).2 due
  unfold takeSlewRow
  rw [only.settleStanding]
  simp [takeSlewPoint, on]

/-- T running on by d ns within its range (R27, R28, R30, R124). -/
theorem advanceTime_of_lt {s : State} {d : Nat} (fits : s.now + d < 2 ^ 64) : s.advanceTime d =
    { s with
      timebase.time := s.now + d
      timebase.high := max s.timebase.high (s.now + d)
      link.idleIn := s.link.idleIn - d
      schedule.lines := s.schedule.lines.map
        (fun l => if l.active = true then { l with remaining := l.remaining - d } else l) } := by
  unfold advanceTime
  rw [timeOf_of_lt fits]
  rfl

end State

theorem exec_slewPoint {s : State} (running : s.port.starting = none) : exec .slewPoint s = .next s.takeSlewRow :=
  congrArg Host.Outcome.next (if_pos (State.running_of_not_starting running))

/-- Settles O41: a positive unit waits for what else stands at T, which here is nothing; then the unit is applied. -/
theorem slewPointAppliesOneUnit : Obligations.SlewPointAppliesOneUnit := by
  intro s running
  rw [exec_slewPoint running]
  refine ⟨⟨_, rfl⟩, fun notDue => by rw [State.takeSlewRow_of_not_due notDue], ?_⟩
  rintro base n begun rfl stands
  have due : s.timebase.slewLeft ≠ 0 → s.nextSlewPoint = some s.now := fun remains => by
    rw [State.nextSlewPoint_of_base begun remains, stands]
  refine ⟨fun negative => ?_, fun positive residue only fits => ?_, fun positive residue only => ?_⟩
  · rw [State.takeSlewRow_negative (due negative.ne) negative]
    exact congrArg Host.Outcome.next (if_neg negative.not_gt)
  · rw [State.takeSlewRow_positive (due positive.ne') only]
    refine congrArg Host.Outcome.next ((if_pos positive).trans ((if_pos residue).trans ?_))
    exact State.advanceTime_of_lt (s := { s with timebase.slewLeft := s.timebase.slewLeft - 1 }) fits
  · rw [State.takeSlewRow_positive (due positive.ne') only]
    exact congrArg Host.Outcome.next ((if_pos positive).trans (if_neg residue.not_ge))

end Sys2Proof.Machine
end

section
/-!
The instants at one value of T: taken together they are taken as their rows take them, in the order of log 3.
-/
namespace Sys2Proof.Machine

/-! ## Rows that take an instant -/

/-- The row takes its instant by this operation while no start is in progress, and neither touches the station port nor
the queue of commands. -/
def RowTakes (row : Instr) (taking : State → State) : Prop :=
  ∀ s, (s.port.starting = none → exec row s = .next (taking s)) ∧ (taking s).portStill = s.portStill

theorem rowTakes_of_running {row : Instr} {taking : State → State}
    (runs : ∀ s, exec row s = .next (if s.running then taking s else s))
    (keeps : ∀ s, (taking s).portStill = s.portStill) : RowTakes row taking :=
  fun s => ⟨fun running => (runs s).trans (congrArg Host.Outcome.next (if_pos (State.running_of_not_starting running))),
    keeps s⟩

/-- Rows that take instants, run one after another, are their operations one after another. -/
theorem afterRows_eq_foldl {rows : List Instr} {takings : List (State → State)}
    (takes : List.Forall₂ RowTakes rows takings) {s : State} (running : s.port.starting = none) :
    afterRows rows s = takings.foldl (fun u taking => taking u) s := by
  induction takes generalizing s with
  | nil => rfl
  | cons row _ ih =>
    obtain ⟨runs, keeps⟩ := row s
    rw [List.foldl_cons, ← ih ((State.portStill_starting keeps).trans running)]
    simp only [afterRows, List.foldl_cons, runs running]

/-- The pulse of one line ends when its time has run out (R124). -/
def State.endPulse (s : State) (line : Fin 4) : State :=
  { s with schedule.lines := s.schedule.lines.modify line Line.ended }

/-- The takings of all instants at one value of T, in the order that log 3 names. -/
def settlingTakings : List (State → State) :=
  (List.finRange 16).map (fun h s => s.fireIfDue h) ++ (List.finRange 16).map (fun h s => s.deadlineIfDue h)
    ++ [State.takeExpiries, State.takeListenDeadline, State.takeOwnSend, State.takeWindowClose, State.takeEpochClose]
    ++ (List.finRange 4).map (fun line s => s.endPulse line) ++ [State.takeSlewRow]

theorem forall₂_rowTakes_map {β : Type} {row : β → Instr} {taking : β → State → State}
    (takes : ∀ x, RowTakes (row x) (taking x)) (l : List β) : List.Forall₂ RowTakes (l.map row) (l.map taking) := by
  rw [List.forall₂_map_left_iff, List.forall₂_map_right_iff]
  exact List.forall₂_same.2 fun x _ => takes x

theorem settlingRows_take : List.Forall₂ RowTakes settlingRows settlingTakings := by
  have fires := forall₂_rowTakes_map (fun h : Fin 16 => rowTakes_of_running (row := .triggerFire h) (fun _ => rfl)
    fun s => State.portStill_of_still (State.fireIfDue_still s h)) (List.finRange 16)
  have deadlines := forall₂_rowTakes_map (fun h : Fin 16 => rowTakes_of_running (row := .sharedDeadline h)
    (fun _ => rfl) fun s => State.portStill_of_still (State.deadlineIfDue_still s h)) (List.finRange 16)
  have pulses := forall₂_rowTakes_map (fun line : Fin 4 => rowTakes_of_running (row := .pulseEnd line)
    (taking := fun s => s.endPulse line) (fun _ => rfl) fun _ => rfl) (List.finRange 4)
  have middle : List.Forall₂ RowTakes [.declinedExpiry, .listenDeadline, .ownSendInstant, .windowClose, .epochClose]
      [State.takeExpiries, State.takeListenDeadline, State.takeOwnSend, State.takeWindowClose,
        State.takeEpochClose] :=
    .cons (rowTakes_of_running (fun _ => rfl) fun _ => rfl) <|
    .cons (rowTakes_of_running (fun _ => rfl) fun s => State.portStill_of_still (State.takeListenDeadline_still s)) <|
    .cons (rowTakes_of_running (fun _ => rfl) State.takeOwnSend_portStill) <|
    .cons (rowTakes_of_running (fun _ => rfl) State.takeWindowClose_portStill) <|
    .cons (rowTakes_of_running (fun _ => rfl) State.takeEpochClose_portStill) .nil
  have slew : List.Forall₂ RowTakes [.slewPoint] [State.takeSlewRow] :=
    .cons (rowTakes_of_running (fun _ => rfl) State.takeSlewRow_portStill) .nil
  exact List.rel_append (List.rel_append (List.rel_append (List.rel_append fires deadlines) middle) pulses) slew

/-! ## All of them together -/

/-- The handles of the slots, as the rows name them. -/
theorem foldl_finRange {n : Nat} (f : State → Nat → State) (s : State) :
    (List.finRange n).foldl (fun u (h : Fin n) => f u h) s = (List.range n).foldl f s := by
  rw [← List.map_coe_finRange_eq_range, List.foldl_map]

theorem endPulse_each {s : State} (four : s.schedule.lines.length = 4) :
    (List.finRange 4).foldl State.endPulse s = s.takePulseEnds := by
  have each : ∀ lines : List Line, lines.length = 4 →
      (((lines.modify 0 Line.ended).modify 1 Line.ended).modify 2 Line.ended).modify 3 Line.ended
        = lines.map Line.ended
    | [_, _, _, _], _ => rfl
  unfold State.takePulseEnds
  rw [← each _ four]
  rfl

/-- The takings, one after another, settle T (log 3). -/
theorem settle_eq_foldl {s : State} (four : s.schedule.lines.length = 4) :
    s.settle = settlingTakings.foldl (fun u taking => taking u) s := by
  have ends := endPulse_each ((State.settleInstants_keepsRanges s).lines four)
  simp only [settlingTakings, List.foldl_append, List.foldl_map, List.foldl_cons, List.foldl_nil]
  rw [foldl_finRange State.fireIfDue, foldl_finRange State.deadlineIfDue]
  exact congrArg State.takeSlewRow ends.symm

end Sys2Proof.Machine
end

section
/-!
A reference period: how far T runs, what it leaves in progress, and what it takes on the way (R28, R29, R30, R34).
-/
namespace Sys2Proof.Machine
namespace State

/-! ## T runs on -/

/-- T has run on by d ns, with this residue and this much of the reference period left (R28, R30, R124). -/
def ranOn (s : State) (d : Nat) (residue : Int) (left : Nat) : State :=
  { s with
    timebase.time := s.now + d
    timebase.high := max s.timebase.high (s.now + d)
    link.idleIn := s.link.idleIn - d
    timebase.residue := residue
    timebase.periodLeft := left
    schedule.lines := s.schedule.lines.map
      (fun l => if l.active = true then { l with remaining := l.remaining - d } else l) }

/-- Within the range of T, whole ns of a period whose unit total is known (R28). -/
theorem runNs_eq {s : State} {total d : Nat} (whole : (total : Int) = s.timebase.residue + s.timebase.periodLeft)
    (fits : s.now + d < 2 ^ 64) : s.runNs d = s.ranOn d 0 (total - d * 25000000) := by
  have left : (s.timebase.residue + s.timebase.periodLeft - (d * unitsPerNs : Nat)).toNat = total - d * 25000000 := by
    simp only [unitsPerNs]
    omega
  unfold runNs
  simp only []
  rw [advanceTime_of_lt fits, left]
  rfl

theorem wholeNs_eq {s : State} {total : Nat} (whole : (total : Int) = s.timebase.residue + s.timebase.periodLeft) :
    s.wholeNs = total / 25000000 := by
  unfold wholeNs unitsPerNs
  rw [← whole]
  omega

/-- A period that ends where T stands (R28). -/
theorem endPeriod_eq {s : State} {total : Nat} (whole : (total : Int) = s.timebase.residue + s.timebase.periodLeft)
    (reached : s.now ≤ s.timebase.high) : s.endPeriod = s.ranOn 0 total 0 := by
  have lines : s.schedule.lines.map (fun l => if l.active = true then { l with remaining := l.remaining - 0 } else l)
      = s.schedule.lines := by simp
  unfold ranOn endPeriod
  rw [lines, whole, Nat.add_zero, Nat.max_eq_left reached]
  rfl

/-! ## What stands at T once it has run there -/

theorem line_of_dueIn {s : State} {d : Nat} (clear : s.dueIn d = false) {l : Line} (hl : l ∈ s.schedule.lines)
    (active : l.active = true) : l.remaining ≠ d := by
  intro ends
  have stands : s.schedule.lines.any (fun l => l.active && l.remaining == d) = true :=
    List.any_eq_true.2 ⟨l, hl, by simp [active, ends]⟩
  simp [dueIn, stands] at clear

/-- Where T has run d ns past no instant, what stands at T is what stood d ns ahead. -/
theorem dueIn_ranOn {s : State} {d : Nat} (clear : ∀ i, i < d → s.dueIn i = false) (residue : Int) (left : Nat) :
    (s.ranOn d residue left).dueIn 0 = s.dueIn d := by
  have lines : (s.ranOn d residue left).schedule.lines.any (fun l => l.active && l.remaining == 0)
      = s.schedule.lines.any (fun l => l.active && l.remaining == d) := by
    have each : ∀ l ∈ s.schedule.lines,
        (((if l.active = true then { l with remaining := l.remaining - d } else l).active &&
          (if l.active = true then { l with remaining := l.remaining - d } else l).remaining == 0) = true ↔
        (l.active && l.remaining == d) = true) := by
      intro l hl
      cases active : l.active
      · simp [active]
      · have later : ∀ i, i < d → l.remaining ≠ i := fun i hi => line_of_dueIn (clear i hi) hl active
        have far : ¬ l.remaining < d := fun less => later _ less rfl
        simp
        omega
    unfold ranOn
    simp only []
    rw [List.any_map, Bool.eq_iff_iff, List.any_eq_true, List.any_eq_true]
    exact exists_congr fun l => and_congr_right (each l)
  exact congrArg₂ or rfl lines

theorem nextStop_due {s : State} {m d : Nat} (least : 1 ≤ d) (most : d ≤ m) (clear : ∀ i, i < d → s.dueIn i = false)
    (due : s.dueIn d = true) : s.nextStop m = d := by
  have first : (List.range m).find? (s.dueIn ∘ (· + 1)) = some (d - 1) := by
    rw [List.find?_range_eq_some]
    refine ⟨?_, List.mem_range.2 (by omega), fun j hj => ?_⟩
    · simpa [Nat.sub_add_cancel least] using due
    · simpa using clear (j + 1) (by omega)
  unfold nextStop
  rw [List.find?_map, first]
  simp [Nat.sub_add_cancel least]

theorem nextStop_clear {s : State} {m : Nat} (some_ns : 1 ≤ m) (clear : ∀ i, i < m → s.dueIn i = false) :
    s.nextStop m = m := by
  cases due : s.dueIn m with
  | true => exact nextStop_due some_ns le_rfl clear due
  | false =>
    have nowhere : (List.range m).find? (s.dueIn ∘ (· + 1)) = none := by
      rw [List.find?_range_eq_none]
      intro i hi
      obtain before | rfl := Nat.lt_or_eq_of_le (Nat.succ_le_of_lt hi)
      · simpa using clear (i + 1) before
      · simpa using due
    unfold nextStop
    rw [List.find?_map, nowhere]
    rfl

/-! ## One turn of a period -/

theorem runPeriod_settles {s : State} {stop : Option Nat} (fuel : Nat) (goes : stop ≠ some 0)
    (left : s.timebase.periodLeft ≠ 0) (due : s.dueIn 0 = true) :
    runPeriod (fuel + 1) stop s = runPeriod fuel stop s.settle :=
  (if_neg (not_or.2 ⟨goes, left⟩)).trans (if_pos due)

theorem runPeriod_ends {s : State} {stop : Option Nat} (fuel : Nat) (goes : stop ≠ some 0)
    (left : s.timebase.periodLeft ≠ 0) (clear : s.dueIn 0 = false) (fraction : s.wholeNs = 0) :
    runPeriod (fuel + 1) stop s = s.endPeriod :=
  (if_neg (not_or.2 ⟨goes, left⟩)).trans ((if_neg (by simp [clear])).trans (if_pos fraction))

theorem runPeriod_runs {s : State} (fuel : Nat) {d : Nat} (left : s.timebase.periodLeft ≠ 0)
    (clear : s.dueIn 0 = false) (whole : s.wholeNs ≠ 0) (reaches : s.nextStop s.wholeNs = d) :
    runPeriod (fuel + 1) none s = runPeriod fuel none (s.runNs d) := by
  subst reaches
  exact (if_neg (not_or.2 ⟨by simp, left⟩)).trans ((if_neg (by simp [clear])).trans (if_neg whole))

theorem runPeriod_runs_to {s : State} (fuel : Nat) {k d : Nat} (goes : k ≠ 0) (left : s.timebase.periodLeft ≠ 0)
    (clear : s.dueIn 0 = false) (whole : s.wholeNs ≠ 0) (reaches : s.nextStop (min k s.wholeNs) = d) :
    runPeriod (fuel + 1) (some k) s = runPeriod fuel (some (k - d)) (s.runNs d) := by
  subst reaches
  exact (if_neg (not_or.2 ⟨by simpa using goes, left⟩)).trans ((if_neg (by simp [clear])).trans (if_neg whole))

/-- A period with no instant in its way runs to its end (R28). -/
theorem runPeriod_clear {s : State} {total n : Nat} (fuel : Nat)
    (whole : (total : Int) = s.timebase.residue + s.timebase.periodLeft) (left : s.timebase.periodLeft ≠ 0)
    (count : n = total / 25000000) (fits : s.now + n < 2 ^ 64) (reached : 1 ≤ n ∨ s.now ≤ s.timebase.high)
    (start : s.dueIn 0 = false) (clear : ∀ d, d < n → s.dueIn d = false)
    (last : total % 25000000 = 0 ∨ s.dueIn n = false) :
    runPeriod (fuel + 2) none s = s.ranOn n (total % 25000000 : Nat) 0 := by
  have ns := wholeNs_eq whole
  obtain rfl | some_ns := Nat.eq_zero_or_pos n
  · have fraction : total % 25000000 = total := by omega
    rw [runPeriod_ends _ (by simp) left start (by omega), endPeriod_eq whole (reached.resolve_left (by omega)), fraction]
  · have rest : total - n * 25000000 = total % 25000000 := by omega
    rw [runPeriod_runs (fuel + 1) (d := n) left start (by omega)
      (by rw [ns, ← count]; exact nextStop_clear some_ns clear), runNs_eq whole fits, rest]
    by_cases used : total % 25000000 = 0
    · rw [used]
      exact runPeriod_done _ _ _ (.inr rfl)
    · have arrived : (s.ranOn n 0 (total % 25000000)).dueIn 0 = false :=
        (dueIn_ranOn clear _ _).trans (last.resolve_left used)
      have remains : ((total % 25000000 : Nat) : Int) = (s.ranOn n 0 (total % 25000000)).timebase.residue
          + (s.ranOn n 0 (total % 25000000)).timebase.periodLeft := (zero_add _).symm
      rw [runPeriod_ends fuel (by simp) used arrived (by rw [wholeNs_eq remains]; omega)]
      unfold endPeriod
      rw [← remains]
      rfl

/-- A period with no instant in its way is stopped where its row says, the rest left in progress (R28; log 5). -/
theorem runPeriod_stopped {s : State} {total k : Nat} (fuel : Nat)
    (whole : (total : Int) = s.timebase.residue + s.timebase.periodLeft) (left : s.timebase.periodLeft ≠ 0)
    (positive : 1 ≤ k) (inside : k ≤ total / 25000000) (fits : s.now + k < 2 ^ 64)
    (clear : ∀ i, i < k → s.dueIn i = false) :
    runPeriod (fuel + 1) (some k) s = s.ranOn k 0 (total - k * 25000000) := by
  have ns := wholeNs_eq whole
  have reaches : s.nextStop (min k s.wholeNs) = k := by
    rw [ns, Nat.min_eq_left inside]
    exact nextStop_clear positive clear
  rw [runPeriod_runs_to fuel (by omega) left (clear 0 positive) (by omega) reaches, runNs_eq whole fits]
  exact runPeriod_done _ _ _ (.inl (by simp))

/-- T runs to the first instant in its way, and what stands there is taken before any more of the period elapses (R30,
R34). -/
theorem runPeriod_to_instant {s v : State} {total d : Nat} (fuel : Nat)
    (whole : (total : Int) = s.timebase.residue + s.timebase.periodLeft) (left : s.timebase.periodLeft ≠ 0)
    (positive : 1 ≤ d) (inside : d ≤ total / 25000000) (before : d * 25000000 < total) (fits : s.now + d < 2 ^ 64)
    (clear : ∀ i, i < d → s.dueIn i = false) (due : s.dueIn d = true)
    (arrives : v = s.ranOn d 0 (total - d * 25000000)) :
    runPeriod (fuel + 2) none s = runPeriod fuel none v.settle := by
  have ns := wholeNs_eq whole
  have reaches : s.nextStop s.wholeNs = d := by
    rw [ns]
    exact nextStop_due positive inside clear due
  have remains : v.timebase.periodLeft ≠ 0 := by rw [arrives]; exact Nat.sub_ne_zero_of_lt before
  have stands : v.dueIn 0 = true := by rw [arrives, dueIn_ranOn clear, due]
  rw [runPeriod_runs (fuel + 1) left (clear 0 positive) (by omega) reaches, runNs_eq whole fits, ← arrives,
    runPeriod_settles fuel (by simp) remains stands]

/-! ## The start of a period (R28, R29) -/

/-- A period begins with the trim as it stands. -/
def periodBegun (s : State) : State :=
  { s with timebase.periodLeft := ((40 * unitsPerNs : Nat) + s.timebase.trim).toNat }

theorem beginPeriod_clear {s : State} (idle : s.timebase.periodLeft = 0) (clear : s.dueIn 0 = false) :
    s.beginPeriod = s.periodBegun := by
  rw [beginPeriod_begins s idle, settleAll_of_none 4 s clear]
  rfl

/-- How much a period adds, in units of 1/25,000,000 ns (R28, R29). -/
theorem periodBegun_total {s : State} {total : Nat} (low : -200000 ≤ s.timebase.trim)
    (adds : (total : Int) = s.timebase.residue + 40 * 25000000 + s.timebase.trim) :
    s.periodBegun.timebase.periodLeft ≠ 0 ∧
      (total : Int) = s.periodBegun.timebase.residue + s.periodBegun.timebase.periodLeft := by
  have units : s.periodBegun.timebase.periodLeft = (1000000000 + s.timebase.trim).toNat := rfl
  have residue : s.periodBegun.timebase.residue = s.timebase.residue := rfl
  omega

/-! ## A period in progress outlasts the instants in its way (R30, R34) -/

theorem applyAction_periodLeft (s : State) (d : Decision) :
    (s.applyAction d).timebase.periodLeft = s.timebase.periodLeft := by
  unfold applyAction
  split
  · rw [stepTime_timebase]
    rfl
  · rfl
  · rfl

theorem takeEpochClose_periodLeft (s : State) : s.takeEpochClose.timebase.periodLeft = s.timebase.periodLeft := by
  unfold takeEpochClose
  simp only []
  split
  · split
    · rw [correct_timebase ‹_›]
      exact applyAction_periodLeft _ _
    · rfl
  · rfl

theorem slewUnit_periodLeft (s : State) : s.slewUnit.timebase.periodLeft = s.timebase.periodLeft := by
  unfold slewUnit
  simp only []
  split_ifs <;> rfl

theorem takeSlewPoint_periodLeft (s : State) : s.takeSlewPoint.timebase.periodLeft = s.timebase.periodLeft := by
  unfold takeSlewPoint
  split
  · exact slewUnit_periodLeft s
  · rfl

theorem settleStanding_periodLeft (s : State) : s.settleStanding.timebase.periodLeft = s.timebase.periodLeft := by
  rw [settleStanding_eq, takePulseEnds_timebase, settleInstants, takeEpochClose_periodLeft, takeWindowClose_timebase,
    takeOwnSend_timebase, still_timebase (takeListenDeadline_still _), takeExpiries_timebase,
    still_timebase (takeDeadlines_still _), still_timebase (takeFirings_still _)]

theorem settle_periodLeft (s : State) : s.settle.timebase.periodLeft = s.timebase.periodLeft := by
  have row : ∀ u : State, u.takeSlewRow.timebase.periodLeft = u.timebase.periodLeft := by
    intro u
    unfold takeSlewRow
    split
    · rw [takeSlewPoint_periodLeft, settleStanding_periodLeft]
    · exact takeSlewPoint_periodLeft u
  unfold settle
  rw [row, settleStanding_periodLeft]

end State

/-! ## The row -/

theorem exec_referencePeriod {s : State} (running : s.port.starting = none) (stop : Option Nat) :
    exec (.referencePeriod stop) s = .next (s.beginPeriod.runPeriod 128 stop) :=
  congrArg Host.Outcome.next (if_pos (State.running_of_not_starting running))

/-- What stands at T is taken before a period begins (R29; log 3). -/
theorem exec_referencePeriod_settles {s : State} (running : s.port.starting = none)
    (idle : s.timebase.periodLeft = 0) (due : s.dueIn 0 = true) (settled : s.settle.dueIn 0 = false)
    (stop : Option Nat) : exec (.referencePeriod stop) s = exec (.referencePeriod stop) s.settle := by
  have later : s.settle.port.starting = none := (State.portStill_starting (State.settle_portStill s)).trans running
  have all : State.settleAll 4 s = s.settle :=
    (if_pos due).trans (State.settleAll_of_none 3 s.settle settled)
  have begins : s.beginPeriod = s.settle.beginPeriod := by
    rw [State.beginPeriod_begins s idle, State.beginPeriod_clear ((State.settle_periodLeft s).trans idle) settled, all]
    rfl
  rw [exec_referencePeriod running, exec_referencePeriod later, begins]

/-- Settles O46: a clear period runs to its end or its stop; T stops at the first instant in its way, takes what stands
there, and a clear rest runs to the end. -/
theorem referencePeriodAddsExactly : Obligations.ReferencePeriodAddsExactly := by
  refine ⟨?_, fun s running four => ?_, fun s running idle due settled =>
    exec_referencePeriod_settles running idle due settled none, ?_⟩
  · intro s total n running idle low high least adds count fits clear
    have some_ns : 1 ≤ n := by omega
    have start := clear 0 some_ns
    obtain ⟨left, whole⟩ := State.periodBegun_total low adds
    refine ⟨fun last => ?_, fun k positive short => ?_⟩
    · rw [exec_referencePeriod running, State.beginPeriod_clear idle start]
      exact congrArg Host.Outcome.next
        (State.runPeriod_clear 126 whole left count fits (.inl some_ns) start clear last)
    · have near : s.periodBegun.now + k < 2 ^ 64 := Nat.lt_trans (Nat.add_lt_add_left short _) fits
      rw [exec_referencePeriod running, State.beginPeriod_clear idle start]
      exact congrArg Host.Outcome.next (State.runPeriod_stopped 127 whole left positive (by omega) near
        fun i hi => clear i (hi.trans short))
  · rw [settle_eq_foldl four, afterRows_eq_foldl settlingRows_take running]
  · intro s v w total n d rest running idle low high least adds count first inside before fits clear due arrives taken
      remains kept later ahead
    obtain ⟨left, whole⟩ := State.periodBegun_total low adds
    have near : s.now + d < 2 ^ 64 := Nat.lt_of_le_of_lt (Nat.add_le_add_left inside _) fits
    have stands : v.now ≤ v.timebase.high ∧ v.now < 2 ^ 64 := by rw [arrives]; exact ⟨le_max_right _ _, near⟩
    obtain ⟨reached, -⟩ := (State.settle_keepsRanges v).timebase.reached stands
    rw [← taken] at reached
    rw [exec_referencePeriod running, State.beginPeriod_clear idle (clear 0 first),
      State.runPeriod_to_instant 126 whole left first (by omega) before near clear due arrives, ← taken]
    exact congrArg Host.Outcome.next (State.runPeriod_clear 124 remains (by omega) rfl later (.inr reached)
      (ahead 0 (by omega)) (fun i hi => ahead i hi.le) (.inr (ahead _ le_rfl)))

end Sys2Proof.Machine
end

section
/-!
The peer table's own rows: what READ PEER and RELEASE answer, the table that a start forms, and a LEAVING beacon
(R44, R46, R50, R61, R62, R66, R67).
-/
namespace Sys2Proof.Machine

/-! ## Commands taken (R180) -/

namespace State

theorem command_takes {s : State} (takes : s.takes = true) (code : Byte) (act : State → Answer) :
    s.command code act = s.respond code (act s) := by
  obtain ⟨starting, high⟩ : s.port.starting = none ∧ s.port.awaitCsHigh = false := by simpa [State.takes] using takes
  simp [command, transaction, running, starting, high]

/-- The answer to a command whose work leaves the serial. -/
theorem respond_eq_answered {s : State} {a : Answer} {code : Byte} {params : Nat}
    (serial : a.after.port.serial = s.port.serial) (bytes : paramBytes code = params) :
    s.respond code a = a.after.answered code params a.code a.body := by
  simp only [respond, answered, serial, bytes]
  rfl

end State

/-! ## READ PEER (R62) -/

theorem exec_readPeer {s : State} (takes : s.takes = true) (station : Byte) : exec (.readPeer station) s =
    .next (s.answered 0x15 1 (s.readPeerAnswer station).1 (s.readPeerAnswer station).2) :=
  congrArg Host.Outcome.next ((State.command_takes takes _ _).trans (State.respond_eq_answered rfl rfl))

/-- Settles O9: the entry is there exactly below the table's length. -/
theorem readPeerReportsTheEntry : Obligations.ReadPeerReportsTheEntry := by
  intro s station takes
  rw [exec_readPeer takes]
  refine ⟨fun e entry => ?_, fun outside => ?_⟩
  · have answer : s.readPeerAnswer station = (.ok, .peer e.asRead) := by
      simp [State.readPeerAnswer, State.peer, entry]
    rw [answer]
    rfl
  · have answer : s.readPeerAnswer station = (.invalid, .nothing) := by
      simp [State.readPeerAnswer, State.peer, outside]
    rw [answer]
    rfl

/-! ## RELEASE (R61) -/

theorem State.releaseAnswer_still (s : State) (station : Nat) : (s.releaseAnswer station).after.still = s.still := by
  unfold State.releaseAnswer
  split
  · rfl
  · split
    · exact State.updatePeer_still _ _ _ _
    · rfl

theorem exec_release {s after : State} {station : Byte} {code : ResponseCode} (takes : s.takes = true)
    (answers : s.releaseAnswer station.toNat = ⟨after, code, .nothing⟩) :
    exec (.release station) s = .next (after.answered 0x50 1 code .nothing) := by
  have serial := State.portStill_serial (State.still_portStill (s.releaseAnswer_still station.toNat))
  have row : s.command 0x50 (fun s => s.releaseAnswer station.toNat) = (s.releaseAnswer station.toNat).after.answered
      0x50 1 (s.releaseAnswer station.toNat).code (s.releaseAnswer station.toNat).body :=
    (State.command_takes takes 0x50 _).trans (State.respond_eq_answered serial rfl)
  rw [answers] at row
  exact congrArg Host.Outcome.next row

/-- An EXCLUDED entry that goes was no MEMBER, so its going is no isolation (R61, R103). -/
theorem State.updatePeer_released {s : State} {p : Nat} {e : Peer} (excluded : e.state = .excluded) :
    s.updatePeer p e e.afterRelease = (s.setPeer p e.afterRelease).raiseMembership.evaluateArming := by
  have changed : e.state ≠ e.afterRelease.state := by simp [excluded, Peer.afterRelease, Peer.makeAbsent]
  exact (State.updatePeer_lost changed (by simp [Peer.afterRelease, Peer.makeAbsent]) rfl).1
    (.inr (.inl (by simp [excluded])))

/-- Settles O21: RELEASE replaces an EXCLUDED entry, reports its change, and refuses anything else. -/
theorem releaseForgetsAnExclusion : Obligations.ReleaseForgetsAnExclusion := by
  intro s station takes
  refine ⟨fun e entry excluded => ?_, fun e entry inside => exec_release takes ?_,
    fun outside => exec_release takes ?_⟩
  · have answer : s.releaseAnswer station.toNat
        = ⟨(s.setPeer station.toNat e.afterRelease).raiseMembership.evaluateArming, .ok, .nothing⟩ := by
      simp [State.releaseAnswer, State.peer, entry, excluded, State.updatePeer_released excluded, answerOk]
    rw [exec_release takes answer]
    rfl
  · simp [State.releaseAnswer, State.peer, entry, inside, refusal]
  · simp [State.releaseAnswer, State.peer, outside, refusal]

/-! ## The table that a start forms (R44, R66, R67) -/

section
variable {cause : StartCause} {straps : Straps} {old : List Peer} {j : Nat}

theorem peersAfterStart_length (cause : StartCause) (straps : Straps) (old : List Peer) :
    (peersAfterStart cause straps old).length = tableSize straps := by
  simp [peersAfterStart]

/-- SELF stands at the own number (R44). -/
theorem peersAfterStart_own (inside : j < tableSize straps) (own : j = ownNumber straps) :
    (peersAfterStart cause straps old)[j]? = some Peer.own := by
  simp [peersAfterStart, own ▸ inside, own]

/-- Any other entry has power-on values after a power-on start, a start whose strap check fails, or where the old table
had none (R66, R67). -/
theorem peersAfterStart_fresh (inside : j < tableSize straps) (other : j ≠ ownNumber straps)
    (forgets : cause = .powerOn ∨ strapsValid straps = false ∨ old.length ≤ j) :
    (peersAfterStart cause straps old)[j]? = some Peer.fresh := by
  by_cases anew : cause = .powerOn ∨ strapsValid straps = false
  · simp [peersAfterStart, inside, other, anew]
  · have short : old.length ≤ j := by tauto
    simp [peersAfterStart, inside, other, short]

/-- A PIN or COMMAND start with valid straps keeps of an old entry what outlasts it (R67). -/
theorem peersAfterStart_kept (inside : j < tableSize straps) (other : j ≠ ownNumber straps) (warm : cause ≠ .powerOn)
    (valid : strapsValid straps = true) {e : Peer} (entry : old[j]? = some e) :
    (peersAfterStart cause straps old)[j]? = some e.afterStart := by
  simp [peersAfterStart, inside, other, warm, valid, entry]

end

/-- Settles O27: the formed table entry by entry, by station number, cause and straps. -/
theorem startsFormThePeerTable : Obligations.StartsFormThePeerTable := by
  intro cause straps old
  refine ⟨peersAfterStart_length cause straps old, fun j inTable => ?_⟩
  have inside : j < tableSize straps := peersAfterStart_length cause straps old ▸ inTable
  refine ⟨peersAfterStart_own inside, peersAfterStart_fresh inside, fun e other warm valid entry => ?_⟩
  rw [peersAfterStart_kept inside other warm valid entry]
  refine ⟨fun self => ?_, fun excluded => ?_, fun standing => ?_⟩
  · simp [Peer.afterStart, self]
  · simp [Peer.afterStart, excluded]
  · obtain state | state | state := standing <;> simp [Peer.afterStart, state]

/-! ## A LEAVING beacon (R50) -/

theorem Peer.afterLeaving_kept {e : Peer} (state : e.state = .absent ∨ e.state = .excluded) (n : Nat) :
    e.afterLeaving n = { e with lastHeard := some n } := by
  rcases state with state | state <;> simp [Peer.afterLeaving, state]

theorem Peer.afterLeaving_lost {e : Peer} (state : e.state = .candidate ∨ e.state = .member) (n : Nat) :
    e.afterLeaving n = { e.makeAbsent with lastHeard := some n } := by
  rcases state with state | state <;> simp [Peer.afterLeaving, state]

/-- A LEAVING beacon is no arrival of content: its sender's entry is replaced, with the reports of its change. -/
theorem State.arrival_leaving {s : State} {p : Nat} {e : Peer} {b : Beacon} (entry : s.peers[p]? = some e)
    (notSelf : e.state ≠ .self) (leaving : b.state = .leaving) (lead : Int) :
    s.arrival p lead b = s.updatePeer p e (e.afterLeaving s.windowEpoch) := by
  simp [State.arrival, State.peer, entry, notSelf, leaving]

/-- Settles O34: the good beacon reaches the entry of its sender, which keeps its state or loses it. -/
theorem leavingBeaconMakesAbsent : Obligations.LeavingBeaconMakesAbsent := by
  intro s bits r b e n running transmits valid reception crc beacon other mark n_eq epoch unheard entry leaving
  subst n_eq
  have inside := (State.markInInterval_iff valid).1 mark
  obtain ⟨v, hv⟩ : ∃ v : State, v = { s with
      link.reception := none, link.idleIn := idleAfter bits false, link.heard := addTo s.link.heard b.sender } :=
    ⟨_, rfl⟩
  have held : v.peers[b.sender]? = some e := by rw [hv]; exact entry
  have window : v.windowEpoch = s.timebase.high / epochLength s.straps := by rw [hv]; rfl
  have row : e.state ≠ .self →
      exec (.frameEnd bits false) s = .next (v.updatePeer b.sender e (e.afterLeaving v.windowEpoch)) := by
    intro notSelf
    rw [State.exec_frameEnd running, State.endFrame_transmitting reception transmits,
      State.judgeFrame_good (s := s.frameEnded _) crc beacon other inside epoch,
      State.deliverGood_first (s := s.frameEnded _) unheard, ← State.arrival_leaving held notSelf leaving, hv]
    rfl
  refine ⟨fun silent => ?_, fun standing u hu => ?_⟩
  · rw [row (by rcases silent with state | state <;> simp [state]), Peer.afterLeaving_kept silent,
      State.updatePeer_same v b.sender (by rfl), window, hv]
    rfl
  · rw [row (by rcases standing with state | state <;> simp [state]), Peer.afterLeaving_lost standing]
    have lost := State.updatePeer_lost (s := v) (p := b.sender) (old := e) (u := u)
      (new := { e.makeAbsent with lastHeard := some v.windowEpoch })
      (by rcases standing with state | state <;> simp [state, Peer.makeAbsent]) (by simp [Peer.makeAbsent])
      (by rw [hu, window, hv]; rfl)
    have sync : v.sync = s.sync := by rw [hv]
    have members : ∀ m, v.memberAt m ↔ s.memberAt m := fun m => by rw [hv]; rfl
    simp only [sync, members] at lost
    exact ⟨fun kept => congrArg Host.Outcome.next (lost.1 kept),
      fun track member alone => congrArg Host.Outcome.next (lost.2 track member alone)⟩

end Sys2Proof.Machine
end

section
/-!
The peer table in accord with the station state: what one entry may be where it stands, and the operations that keep
every entry in its place (R44, R48, R63, R65, R91, R96).
-/
namespace Sys2Proof.Machine

/-! ## One entry in its place (R44, R48, R65) -/

/-- No CANDIDATE, no MEMBER, and no current lead. -/
def Peer.silent (e : Peer) : Prop := e.state ≠ .candidate ∧ e.state ≠ .member ∧ e.currentLead = none

/-- What the entry of station j may be: SELF at the own number alone, and silent where the station does not transmit
(R44, R48, R65). -/
structure Peer.StandsAt (e : Peer) (own : Nat) (transmits : Bool) (j : Nat) : Prop where
  self : j = own → e = Peer.own
  other : j ≠ own → e.state ≠ .self
  silent : transmits = false → e.silent

/-- An entry is not raised: its state stays or falls to ABSENT or EXCLUDED, its current lead stays or goes, and SELF
stays whole. Every event but an arrival does this to an entry. -/
structure Peer.LowersTo (e e' : Peer) : Prop where
  state : e'.state = e.state ∨ e'.state = .absent ∨ e'.state = .excluded
  lead : e'.currentLead = e.currentLead ∨ e'.currentLead = none
  own : e = Peer.own → e' = Peer.own

theorem Peer.silent.lowers {e e' : Peer} (lowers : e.LowersTo e') (h : e.silent) : e'.silent := by
  obtain ⟨candidate, member, lead⟩ := h
  refine ⟨?_, ?_, lowers.lead.elim (·.trans lead) id⟩ <;>
    obtain state | state | state := lowers.state <;> simp [state, candidate, member]

theorem Peer.StandsAt.lowers {e e' : Peer} {own : Nat} {transmits : Bool} {j : Nat} (lowers : e.LowersTo e')
    (h : e.StandsAt own transmits j) : e'.StandsAt own transmits j := by
  refine ⟨fun here => lowers.own (h.self here), fun elsewhere => ?_, fun quiet => (h.silent quiet).lowers lowers⟩
  obtain state | state | state := lowers.state <;> simp [state, h.other elsewhere]

/-- An entry that is not SELF stands at another number than the own. -/
theorem Peer.StandsAt.ne_own {e : Peer} {own : Nat} {transmits : Bool} {j : Nat} (h : e.StandsAt own transmits j)
    (notSelf : e.state ≠ .self) : j ≠ own :=
  fun here => notSelf (by rw [h.self here]; rfl)

theorem Peer.LowersTo.refl (e : Peer) : e.LowersTo e := ⟨.inl rfl, .inl rfl, id⟩

theorem Peer.LowersTo.of_notSelf {e e' : Peer} (notSelf : e.state ≠ .self)
    (state : e'.state = e.state ∨ e'.state = .absent ∨ e'.state = .excluded)
    (lead : e'.currentLead = e.currentLead ∨ e'.currentLead = none) : e.LowersTo e' :=
  ⟨state, lead, fun own => absurd (by rw [own]; rfl) notSelf⟩

theorem Peer.cleared_lowers (e : Peer) : e.LowersTo e.cleared := by
  unfold Peer.cleared
  split
  case h_1 => exact .refl e
  case h_2 state => exact .of_notSelf (by simp [state]) (.inr (.inr rfl)) (.inr rfl)
  all_goals
    rename_i state
    exact .of_notSelf (by simp [state]) (.inr (.inl rfl)) (.inr rfl)

/-- The clearing of R65 silences every entry but SELF, which is silent at the own number. -/
theorem Peer.StandsAt.cleared {e : Peer} {own : Nat} {transmits : Bool} {j : Nat} (h : e.StandsAt own transmits j) :
    e.cleared.StandsAt own false j := by
  have lowered := h.lowers e.cleared_lowers
  refine ⟨lowered.self, lowered.other, fun _ => ?_⟩
  by_cases here : j = own
  · rw [lowered.self here]
    simp [Peer.silent, Peer.own, Peer.fresh]
  · unfold Peer.cleared
    split
    case h_1 self => exact absurd self (h.other here)
    all_goals simp [Peer.silent, Peer.fresh]

theorem Peer.afterLeaving_lowers (e : Peer) (n : Nat) : e.LowersTo (e.afterLeaving n) := by
  unfold Peer.afterLeaving
  split
  case h_1 state | h_2 state => exact .of_notSelf (by simp [state]) (.inr (.inl rfl)) (.inr rfl)
  case h_3 state | h_4 state => exact .of_notSelf (by simp [state]) (.inl rfl) (.inl rfl)
  case h_5 => exact .refl e

theorem Peer.afterRelease_lowers {e : Peer} (excluded : e.state = .excluded) : e.LowersTo e.afterRelease :=
  .of_notSelf (by simp [excluded]) (.inr (.inl rfl)) (.inr rfl)

theorem Peer.afterBadFrame_lowers (e : Peer) (c : ConfigStore) : e.LowersTo (e.afterBadFrame c) := by
  unfold Peer.afterBadFrame
  simp only []
  split
  case h_1 state | h_2 state =>
    have notSelf : e.state ≠ .self := by simp [state]
    split
    · exact .of_notSelf notSelf (.inr (.inr rfl)) (.inl rfl)
    · exact .of_notSelf notSelf (.inl rfl) (.inl rfl)
  case h_3 state | h_4 state => exact .of_notSelf (by simp [state]) (.inl rfl) (.inl rfl)
  case h_5 => exact .refl e

theorem Peer.afterMiss_lowers (e : Peer) (c : ConfigStore) : e.LowersTo (e.afterMiss c) := by
  unfold Peer.afterMiss
  simp only []
  split
  case h_1 state | h_2 state =>
    have notSelf : e.state ≠ .self := by simp [state]
    split
    · exact .of_notSelf notSelf (.inr (.inl rfl)) (.inr rfl)
    · exact .of_notSelf notSelf (.inl rfl) (.inl rfl)
  case h_3 state | h_4 state => exact .of_notSelf (by simp [state]) (.inl rfl) (.inl rfl)
  case h_5 => exact .refl e

theorem Peer.withoutLead_lowers (e : Peer) : e.LowersTo { e with currentLead := none } :=
  ⟨.inl rfl, .inr rfl, fun own => by rw [own]; rfl⟩

/-- An arrival settles no entry of another station as SELF (R55). -/
theorem Peer.afterArrival_notSelf {e : Peer} (notSelf : e.state ≠ .self) (c : ConfigStore) (b : Beacon) (lead : Int)
    (n : Nat) (viewTest : Bool) : (e.afterArrival c b lead n viewTest).state ≠ .self := by
  have judged : (e.judged c b lead n viewTest).state = e.state := rfl
  rw [Peer.afterArrival_eq]
  by_cases excluded : e.state = .excluded
  · rw [Peer.settle_excluded c (judged.trans excluded)]
    split <;> simp [judged, notSelf]
  · by_cases trips : (e.judged c b lead n viewTest).tripped c = true
    · rw [Peer.settle_tripped (judged ▸ notSelf) (judged ▸ excluded) trips]
      simp
    · rw [Peer.settle_kept (judged ▸ notSelf) (judged ▸ excluded) (by simpa using trips)]
      dsimp only
      split <;> simp

theorem Peer.afterStart_stands (e : Peer) {own j : Nat} (other : j ≠ own) (transmits : Bool) :
    e.afterStart.StandsAt own transmits j := by
  refine ⟨fun here => absurd here other, fun _ => ?_, fun _ => ?_⟩ <;>
    cases state : e.state <;> simp [Peer.afterStart, state, Peer.silent, Peer.fresh]

/-- Whatever the old table, every entry of the one that a start forms stands in its place (R44, R66, R67). -/
theorem peersAfterStart_stands {cause : StartCause} {straps : Straps} {old : List Peer} {j : Nat} {e : Peer}
    (transmits : Bool) (entry : (peersAfterStart cause straps old)[j]? = some e) :
    e.StandsAt (ownNumber straps) transmits j := by
  have inside : j < tableSize straps :=
    peersAfterStart_length cause straps old ▸ (List.getElem?_eq_some_iff.1 entry).1
  by_cases here : j = ownNumber straps
  · obtain rfl := Option.some.inj (entry.symm.trans (peersAfterStart_own inside here))
    exact ⟨fun _ => rfl, fun elsewhere => absurd here elsewhere, fun _ => by simp [Peer.silent, Peer.own, Peer.fresh]⟩
  · by_cases forgets : cause = .powerOn ∨ strapsValid straps = false ∨ old.length ≤ j
    · obtain rfl := Option.some.inj (entry.symm.trans (peersAfterStart_fresh inside here forgets))
      exact Peer.afterStart_stands Peer.fresh here transmits
    · simp only [not_or, Bool.not_eq_false, not_le] at forgets
      obtain ⟨warm, valid, held⟩ := forgets
      obtain rfl := Option.some.inj
        (entry.symm.trans (peersAfterStart_kept inside here warm valid (List.getElem?_eq_getElem held)))
      exact Peer.afterStart_stands _ here transmits

/-! ## The accord of the whole table -/

/-- The invariant of O58, entry by entry: the table has its size and every entry stands in its place, the foreign set
is empty where the station does not transmit, and a listen deadline stands in LISTEN alone. -/
structure State.InAccord (s : State) : Prop where
  size : s.peers.length = tableSize s.straps
  entries : ∀ (j : Nat) (e : Peer), s.peers[j]? = some e → e.StandsAt (ownNumber s.straps) s.transmitting j
  foreign : s.transmitting = false → s.sync.foreign = 0
  deadline : s.sync.listenDeadline.isSome = true ↔ s.sync.state = .listen

theorem ownNumber_lt_tableSize (straps : Straps) : ownNumber straps < tableSize straps := by
  unfold tableSize
  split
  · obtain ⟨-, -, -, -, -, -, number⟩ := strapsValid_geometry ‹_›
    exact number
  · exact straps.stn.isLt

namespace State

theorem groupHolds_iff (s : State) : s.groupHolds ↔ s.InAccord := by
  constructor
  · rintro ⟨size, own, other, silent, deadline⟩
    refine ⟨size, fun j e entry => ⟨fun here => ?_, other j e entry, fun quiet => ?_⟩,
      fun quiet => (silent quiet).1, deadline⟩
    · subst here
      exact Option.some.inj (entry.symm.trans own)
    · exact (silent quiet).2 e (List.mem_of_getElem? entry)
  · rintro ⟨size, entries, foreign, deadline⟩
    have inside : ownNumber s.straps < s.peers.length := size ▸ ownNumber_lt_tableSize s.straps
    have own := List.getElem?_eq_getElem inside
    refine ⟨size, own.trans (congrArg some ((entries _ _ own).self rfl)), fun j e entry => (entries j e entry).other,
      fun quiet => ⟨foreign quiet, fun e he => ?_⟩, deadline⟩
    obtain ⟨j, entry⟩ := List.mem_iff_getElem?.1 he
    exact (entries j e entry).silent quiet

/-- What the accord speaks of. -/
def accordParts (s : State) : Straps × List Peer × StationState × StationSet × Option Nat :=
  (s.port.straps, s.peers, s.sync.state, s.sync.foreign, s.sync.listenDeadline)

theorem InAccord.of_parts {s t : State} (hs : s.InAccord) (h : t.accordParts = s.accordParts) : t.InAccord := by
  simp only [accordParts, Prod.mk.injEq] at h
  obtain ⟨straps, peers, state, foreign, deadline⟩ := h
  obtain ⟨size, entries, silent, listens⟩ := hs
  constructor <;> simpa only [State.straps, State.transmitting, straps, peers, state, foreign, deadline]

/-- No event of the schedule touches these parts. -/
theorem accordParts_of_offSchedule {s t : State} (h : t.offSchedule = s.offSchedule) :
    t.accordParts = s.accordParts :=
  congrArg (fun u => (u.port.straps, u.peers, u.sync.state, u.sync.foreign, u.sync.listenDeadline)) h

theorem InAccord.of_offSchedule {s t : State} (hs : s.InAccord) (h : t.offSchedule = s.offSchedule) : t.InAccord :=
  hs.of_parts (accordParts_of_offSchedule h)

theorem InAccord.ite {t u : State} {p : Prop} [Decidable p] (first : p → t.InAccord) (second : ¬ p → u.InAccord) :
    (if p then t else u).InAccord :=
  iteInduction first second

/-! ## State changes (R65, R91, R95, R107) -/

theorem quiet_of_not_transmits {new : StationState} (h : new.transmits = false) : new.quiet = true := by
  cases new <;> simp_all [StationState.transmits, StationState.quiet]

/-- A state change after which the sync controller is y: a quiet state finds the table cleared (R65). -/
theorem InAccord.enter_withSync {s : State} {new : StationState} (cause : Cause) {y : Sync} (state : y.state = new)
    (foreign : new.transmits = false → y.foreign = 0) (deadline : y.listenDeadline.isSome = true ↔ new = .listen)
    (hs : s.InAccord) : ({ s.enter new cause with sync := y } : State).InAccord := by
  have straps : (s.enter new cause).straps = s.straps :=
    portStill_straps (still_portStill (enter_still s new cause))
  have transmits : ({ s.enter new cause with sync := y } : State).transmitting = new.transmits :=
    congrArg StationState.transmits state
  refine ⟨?_, fun j e entry => ?_, fun quiet => foreign (transmits ▸ quiet), deadline.trans (by rw [← state])⟩
  · change (s.enter new cause).peers.length = tableSize (s.enter new cause).straps
    rw [straps, enter_peers, ← hs.size]
    split <;> simp
  · change (s.enter new cause).peers[j]? = some e at entry
    change e.StandsAt (ownNumber (s.enter new cause).straps) _ j
    rw [straps, transmits]
    rw [enter_peers] at entry
    split at entry
    · obtain ⟨e₀, entry₀, rfl⟩ := Option.map_eq_some_iff.1 (List.getElem?_map ▸ entry)
      have cleared := (hs.entries j e₀ entry₀).cleared
      exact ⟨cleared.self, cleared.other, fun _ => cleared.silent rfl⟩
    · rename_i loud
      have stands := hs.entries j e entry
      exact ⟨stands.self, stands.other, fun quiet => absurd (quiet_of_not_transmits quiet) loud⟩

theorem enter_inAccord {s : State} {new : StationState} (cause : Cause) (elsewhere : new ≠ .listen)
    (hs : s.InAccord) : (s.enter new cause).InAccord := by
  have entered := hs.enter_withSync (new := new) cause (y := s.sync.enter new cause) rfl
    (fun quiet => if_pos (quiet_of_not_transmits quiet)) (by simp [Sync.enter, elsewhere])
  rwa [← enter_sync] at entered

theorem acceptJoin_inAccord {s : State} (hs : s.InAccord) : s.acceptJoin.InAccord := by
  have frozen : ({ s with port.frozen := true, sync.holdLeft := false, sync.alignSources := 0 } : State).InAccord :=
    hs.of_parts rfl
  refine frozen.enter_withSync .joined ?_ (fun _ => ?_) (by simp) <;> rw [enter_sync] <;> rfl

theorem joinUnasked_inAccord {s : State} (hs : s.InAccord) : s.joinUnasked.InAccord := by
  unfold joinUnasked
  split
  · exact acceptJoin_inAccord hs
  · exact hs

theorem changeState_inAccord {s : State} {new : StationState} (cause : Cause) (elsewhere : new ≠ .listen)
    (hs : s.InAccord) : (s.changeState new cause).InAccord :=
  have entered := enter_inAccord cause elsewhere hs
  .ite (fun _ => joinUnasked_inAccord entered) fun _ => entered

theorem merge_inAccord {s : State} (hs : s.InAccord) : s.merge.InAccord := by
  unfold merge
  rw [changeState_plain s .merge (by decide)]
  refine hs.enter_withSync .merge ?_ (fun _ => ?_) (by simp) <;> rw [enter_sync] <;> rfl

/-! ## The peer table (R49 to R58, R61) -/

theorem InAccord.peer {s : State} (hs : s.InAccord) {p : Nat} {e : Peer} (entry : s.peer p = some e) :
    e.StandsAt (ownNumber s.straps) s.transmitting p :=
  hs.entries p e entry

theorem setPeer_inAccord {s : State} {p : Nat} {e : Peer}
    (stands : e.StandsAt (ownNumber s.straps) s.transmitting p) (hs : s.InAccord) : (s.setPeer p e).InAccord := by
  refine ⟨List.length_set.trans hs.size, fun j x entry => ?_, hs.foreign, hs.deadline⟩
  by_cases here : p = j
  · subst here
    obtain ⟨-, rfl⟩ : p < s.peers.length ∧ e = x := by simpa [List.getElem?_set] using entry
    exact stands
  · exact hs.entries j x (by simpa [here] using entry)

theorem mapPeers_inAccord {s : State} {f : Peer → Peer} (lowers : ∀ e : Peer, e.LowersTo (f e)) (hs : s.InAccord) :
    ({ s with peers := s.peers.map f } : State).InAccord := by
  refine ⟨(List.length_map f).trans hs.size, fun j x entry => ?_, hs.foreign, hs.deadline⟩
  obtain ⟨e, held, rfl⟩ := Option.map_eq_some_iff.1 (List.getElem?_map ▸ entry)
  exact (hs.entries j e held).lowers (lowers e)

theorem isolationCheck_inAccord {s : State} (old : PeerState) (hs : s.InAccord) : (s.isolationCheck old).InAccord :=
  .ite (fun _ => changeState_inAccord _ (by decide) hs) fun _ => hs

theorem updatePeer_inAccord {s : State} {p : Nat} {old new : Peer} (entry : s.peer p = some old)
    (lowers : old.LowersTo new) (hs : s.InAccord) : (s.updatePeer p old new).InAccord := by
  have replaced := setPeer_inAccord ((hs.peer entry).lowers lowers) hs
  have raised : (s.setPeer p new).raiseMembership.InAccord := replaced.of_parts rfl
  exact .ite (fun _ => replaced)
    fun _ => isolationCheck_inAccord _ (raised.of_offSchedule (evaluateArming_offSchedule _))

theorem badFrame_inAccord {s : State} (p : Nat) (hs : s.InAccord) : (s.badFrame p).InAccord := by
  unfold badFrame
  split
  · exact updatePeer_inAccord ‹_› (Peer.afterBadFrame_lowers _ _) hs
  · exact hs

theorem missedWindow_inAccord {s : State} (p : Nat) (hs : s.InAccord) : (s.missedWindow p).InAccord := by
  unfold missedWindow
  split
  · exact updatePeer_inAccord ‹_› (Peer.afterMiss_lowers _ _) hs
  · exact hs

/-- An arrival may raise an entry: it comes in a transmitting state, and never at SELF (R7, R55). -/
theorem arrival_inAccord {s : State} (p : Nat) (lead : Int) (b : Beacon) (transmits : s.transmitting = true)
    (hs : s.InAccord) : (s.arrival p lead b).InAccord := by
  cases entry : s.peer p with
  | none => simpa [arrival, entry] using hs
  | some e =>
    by_cases self : e.state = .self
    · simpa [arrival, entry, self] using hs
    by_cases leaving : b.state = .leaving
    · simpa [arrival, entry, self, leaving] using updatePeer_inAccord entry (Peer.afterLeaving_lowers e _) hs
    rw [arrival_eq entry self leaving rfl]
    have elsewhere := (hs.peer entry).ne_own self
    have replaced := setPeer_inAccord (e := e.afterArrival s.port.config b lead s.windowEpoch (s.viewTest e b))
      ⟨fun here => absurd here elsewhere, fun _ => Peer.afterArrival_notSelf self _ _ _ _ _,
        fun quiet => by rw [transmits] at quiet; cases quiet⟩ hs
    have arrived : (s.arrived p e (e.afterArrival s.port.config b lead s.windowEpoch (s.viewTest e b))).InAccord :=
      replaced.of_parts rfl
    exact isolationCheck_inAccord _ (arrived.of_offSchedule (beaconNotice_offSchedule _ _ _))

end State
end Sys2Proof.Machine
end

section
/-!
The accord kept by frames, own beacons, corrections, the instants, the commands and the starts, and so by every row
(R15, R23, R37, R69, R94, R108, R195).
-/
namespace Sys2Proof.Machine
namespace State

/-! ## Frames and own beacons (R15 to R19, R23, R24) -/

/-- A stray is heard in a transmitting state, where the foreign set may hold stations (R105). -/
theorem hearStray_inAccord {s : State} (b : Beacon) (transmits : s.transmitting = true) (hs : s.InAccord) :
    (s.hearStray b).InAccord :=
  .ite (fun _ => hs) fun _ =>
    ⟨hs.size, hs.entries, fun quiet => absurd transmits (Bool.eq_false_iff.1 quiet), hs.deadline⟩

theorem judgeFrame_inAccord {s : State} (mark : Int) (bits : List Bool) (inError : Bool)
    (transmits : s.transmitting = true) (hs : s.InAccord) : (s.judgeFrame mark bits inError).InAccord := by
  unfold judgeFrame
  split
  · exact changeState_inAccord _ (by decide) hs
  · exact .ite (fun _ => hs) fun _ => badFrame_inAccord _ hs
  · exact hs
  · exact hearStray_inAccord _ transmits hs
  · rename_i b _
    have heard : ({ s with link.heard := addTo s.link.heard b.sender } : State).InAccord := hs.of_parts rfl
    exact .ite (fun _ => badFrame_inAccord _ hs) fun _ => arrival_inAccord _ _ _ transmits heard

theorem alignTime_accordParts (s : State) (b : Nat) : (s.alignTime b).accordParts = s.accordParts :=
  (accordParts_of_offSchedule (alignTime_offSchedule s b)).trans rfl

/-- The frame that aligns the station is judged in ACQUIRE (R98). -/
theorem alignTo_inAccord {s : State} (b : Beacon) (mark : Int) (bits : List Bool) (hs : s.InAccord) :
    (s.alignTo b mark bits).InAccord := by
  have aligned := hs.of_parts (alignTime_accordParts s (s.alignedTime b mark))
  refine judgeFrame_inAccord _ _ _ ?_ (changeState_inAccord _ (by decide) aligned)
  rw [transmitting, changeState_plain _ _ (by decide), enter_sync]
  rfl

theorem listenFrame_inAccord {s : State} (mark : Int) (bits : List Bool) (inError : Bool) (hs : s.InAccord) :
    (s.listenFrame mark bits inError).InAccord := by
  refine .ite (fun _ => hs) fun _ => .ite (fun _ => changeState_inAccord _ (by decide) hs) fun _ => ?_
  split
  · exact .ite (fun _ => alignTo_inAccord _ _ _ hs) fun _ => hs
  · exact hs

theorem endFrame_inAccord {s : State} (bits : List Bool) (inError : Bool) (wait : Nat) (hs : s.InAccord) :
    (s.endFrame bits inError wait).InAccord := by
  have ended : (s.frameEnded wait).InAccord := hs.of_parts rfl
  cases reception : s.link.reception with
  | none => rwa [endFrame_none reception]
  | some r =>
    cases state : s.sync.state with
    | dormant | halted => rwa [endFrame_quiet reception (by simp [state])]
    | listen =>
      rw [endFrame_listen reception state]
      exact listenFrame_inAccord _ _ _ ended
    | acquire | track | holdover | leaving =>
      have transmits : s.transmitting = true := by rw [transmitting, state]; rfl
      rw [endFrame_transmitting reception transmits]
      exact judgeFrame_inAccord _ _ _ transmits ended

theorem beaconEnded_inAccord {s : State} (b : OwnBeacon) (hs : s.InAccord) : (s.beaconEnded b).InAccord :=
  .ite (fun _ => changeState_inAccord _ (by decide) hs) fun _ => hs

theorem cutByOverdrive_inAccord {s : State} (b : OwnBeacon) (hs : s.InAccord) : (s.cutByOverdrive b).InAccord :=
  have cut : ({ s with
      link.beacon := none
      link.overdriveRun := min 3 (s.link.overdriveRun + 1)
      link.completeRun := 0 } : State).InAccord := hs.of_parts rfl
  .ite (fun _ => changeState_inAccord _ (by decide) cut) fun _ => beaconEnded_inAccord _ cut

/-! ## Corrections (R69, R100) -/

/-- The runs of the station state move no part but by a state change, and none leads to LISTEN (R101 to R104). -/
theorem advanceRuns_inAccord {s : State} (c : Int) (a : Action) (hs : s.InAccord) : (s.advanceRuns c a).InAccord := by
  have locked : ∀ run, ({ s with sync.lockRun := run } : State).InAccord := fun _ => hs.of_parts rfl
  have unlocked : ∀ run, ({ s with sync.unlockRun := run } : State).InAccord := fun _ => hs.of_parts rfl
  have relocked : ∀ run count, ({ s with sync.relockRun := run, sync.holdoverCount := count } : State).InAccord :=
    fun _ _ => hs.of_parts rfl
  unfold advanceRuns
  split
  · exact .ite (fun _ => changeState_inAccord _ (by decide) (locked _)) fun _ => locked _
  · exact .ite (fun _ => changeState_inAccord _ (by decide) (unlocked _)) fun _ => unlocked _
  · exact .ite (fun _ => changeState_inAccord _ (by decide) (relocked _ _)) fun _ =>
      .ite (fun _ => changeState_inAccord _ (by decide) (relocked _ _)) fun _ => relocked _ _
  all_goals exact hs

theorem emptyForeign_inAccord {s : State} (hs : s.InAccord) : ({ s with sync.foreign := 0 } : State).InAccord :=
  ⟨hs.size, hs.entries, fun _ => rfl, hs.deadline⟩

theorem handleResult_inAccord {s : State} (c : Int) (a : Action) (hs : s.InAccord) : (s.handleResult c a).InAccord :=
  emptyForeign_inAccord (.ite (fun _ => merge_inAccord hs) fun _ => advanceRuns_inAccord c a hs)

theorem correct_inAccord {s : State} (hs : s.InAccord) : s.correct.InAccord := by
  have cleared : s.clearLeads.InAccord := mapPeers_inAccord Peer.withoutLead_lowers hs
  obtain ⟨sync, peers, -, port, -⟩ := applyAction_frame s.clearLeads s.decision
  have acted : (s.clearLeads.applyAction s.decision).InAccord :=
    cleared.of_parts (by unfold accordParts; rw [sync, peers, port])
  unfold correct
  simp only [writeLog_recordFlags_eq]
  exact handleResult_inAccord _ _ (acted.of_parts rfl)

/-! ## Instants, and the running of T -/

theorem takeOwnSend_inAccord {s : State} (hs : s.InAccord) : s.takeOwnSend.InAccord :=
  .ite (fun _ => .ite (fun _ => hs.of_parts rfl) fun _ => hs.of_parts rfl) fun _ => hs

theorem takeWindowClose_inAccord {s : State} (hs : s.InAccord) : s.takeWindowClose.InAccord := by
  have marked : s.markTaken.InAccord := hs.of_parts rfl
  unfold takeWindowClose
  split
  · exact .ite (fun _ => missedWindow_inAccord _ marked) fun _ => marked
  all_goals exact hs

theorem takeEpochClose_inAccord {s : State} (hs : s.InAccord) : s.takeEpochClose.InAccord :=
  have emptied : ({ s.markTaken with link.heard := 0 } : State).InAccord := hs.of_parts rfl
  .ite (fun _ => .ite (fun _ => correct_inAccord emptied) fun _ => emptied) fun _ => hs

theorem takeListenDeadline_inAccord {s : State} (hs : s.InAccord) : s.takeListenDeadline.InAccord :=
  .ite (fun _ => changeState_inAccord _ (by decide) hs) fun _ => hs

theorem slewUnit_accordParts (s : State) : s.slewUnit.accordParts = s.accordParts := by
  unfold slewUnit
  simp only []
  split_ifs <;> rfl

theorem takeSlewPoint_inAccord {s : State} (hs : s.InAccord) : s.takeSlewPoint.InAccord :=
  .ite (fun _ => hs.of_parts (slewUnit_accordParts s)) fun _ => hs

theorem settleStanding_inAccord {s : State} (hs : s.InAccord) : s.settleStanding.InAccord :=
  have fired := hs.of_offSchedule (takeFirings_offSchedule s)
  have abandoned := fired.of_offSchedule (takeDeadlines_offSchedule _)
  have expired := abandoned.of_offSchedule (takeExpiries_offSchedule _)
  have closed := takeEpochClose_inAccord
    (takeWindowClose_inAccord (takeOwnSend_inAccord (takeListenDeadline_inAccord expired)))
  closed.of_offSchedule (takePulseEnds_offSchedule _)

theorem takeSlewRow_inAccord {s : State} (hs : s.InAccord) : s.takeSlewRow.InAccord :=
  .ite (fun _ => takeSlewPoint_inAccord (settleStanding_inAccord hs)) fun _ => takeSlewPoint_inAccord hs

theorem settle_inAccord {s : State} (hs : s.InAccord) : s.settle.InAccord :=
  takeSlewRow_inAccord (settleStanding_inAccord hs)

theorem settleAll_inAccord (fuel : Nat) {s : State} (hs : s.InAccord) : (settleAll fuel s).InAccord := by
  induction fuel generalizing s with
  | zero => exact hs
  | succ fuel ih => exact .ite (fun _ => ih (settle_inAccord hs)) fun _ => hs

theorem beginPeriod_inAccord {s : State} (hs : s.InAccord) : s.beginPeriod.InAccord :=
  .ite (fun _ => (settleAll_inAccord 4 hs).of_parts rfl) fun _ => hs

theorem runPeriod_inAccord (fuel : Nat) (stop : Option Nat) {s : State} (hs : s.InAccord) :
    (runPeriod fuel stop s).InAccord := by
  induction fuel generalizing stop s with
  | zero => exact hs
  | succ fuel ih =>
    have ended : s.endPeriod.InAccord := hs.of_parts rfl
    have run : ∀ d, (s.runNs d).InAccord := fun _ => hs.of_parts rfl
    exact .ite (fun _ => hs) fun _ => .ite (fun _ => ih _ (settle_inAccord hs)) fun _ =>
      .ite (fun _ => ended) fun _ => ih _ (run _)

/-! ## Commands that leave the parts -/

theorem popAnswer_accordParts (s : State) : s.popAnswer.after.accordParts = s.accordParts := by
  unfold popAnswer
  split <;> rfl

theorem configureAnswer_accordParts (s : State) (ident : Byte) (value : Nat) :
    (s.configureAnswer ident value).after.accordParts = s.accordParts := by
  unfold configureAnswer
  split
  · rfl
  · split_ifs <;> rfl

theorem maskAnswer_accordParts (s : State) (mask enables : Byte) :
    (s.maskAnswer mask enables).after.accordParts = s.accordParts := by
  unfold maskAnswer
  split <;> rfl

theorem clearAnswer_accordParts (s : State) (alertFlags corrFlags : Byte) :
    (s.clearAnswer alertFlags corrFlags).after.accordParts = s.accordParts := by
  unfold clearAnswer
  split <;> rfl

theorem scheduleAnswer_accordParts (s : State) (p : TriggerParams) (options : Byte) :
    (s.scheduleAnswer p options).after.accordParts = s.accordParts := by
  unfold scheduleAnswer
  repeat' split
  all_goals rfl

theorem proposeAnswer_accordParts (s : State) (p : TriggerParams) :
    (s.proposeAnswer p).after.accordParts = s.accordParts := by
  unfold proposeAnswer
  repeat' split
  case h_2.isFalse.isFalse.isFalse => exact accordParts_of_offSchedule (makeProposal_offSchedule _ _ _ _)
  all_goals rfl

theorem cancelAnswer_accordParts (s : State) (handle : Byte) :
    (s.cancelAnswer handle).after.accordParts = s.accordParts := by
  unfold cancelAnswer
  split
  · rfl
  · split
    · exact accordParts_of_offSchedule (cancelEntry_offSchedule _ _ _)
    · rfl

theorem captureEdge_accordParts (s : State) (input : Fin 2) : (s.captureEdge input).accordParts = s.accordParts := by
  have set : ∀ c, (s.setCapture input c).accordParts = s.accordParts := by
    intro c
    unfold setCapture
    split <;> rfl
  unfold captureEdge
  exact iteInduction (motive := fun u : State => u.accordParts = s.accordParts)
    (fun _ => (accordParts_of_offSchedule (post_offSchedule _ _)).trans (set _)) fun _ => set _

/-! ## Commands and pins that change the station state -/

theorem transaction_inAccord {s : State} {take : State → State} (hs : s.InAccord) (taken : (take s).InAccord) :
    (s.transaction take).InAccord :=
  .ite (fun _ => hs) fun _ => .ite (fun _ => hs.of_parts rfl) fun _ => taken

theorem command_inAccord {s : State} (code : Byte) {act : State → Answer} (hs : s.InAccord)
    (acted : (act s).after.InAccord) : (s.command code act).InAccord :=
  transaction_inAccord hs (acted.of_parts rfl)

theorem joinAnswer_inAccord {s : State} (hs : s.InAccord) : s.joinAnswer.after.InAccord := by
  unfold joinAnswer
  split
  · exact hs
  · exact acceptJoin_inAccord hs

theorem leaveSecurely_inAccord {s : State} (cause : Cause) (hs : s.InAccord) : (s.leaveSecurely cause).InAccord := by
  unfold leaveSecurely
  split
  case h_1 | h_2 | h_3 | h_4 => exact changeState_inAccord _ (by decide) hs
  all_goals exact hs

theorem leaveFast_inAccord {s : State} (cause : Cause) (hs : s.InAccord) : (s.leaveFast cause).InAccord := by
  unfold leaveFast
  split
  case h_6 | h_7 => exact hs
  all_goals exact changeState_inAccord _ (by decide) hs

theorem leaveSecureAnswer_inAccord {s : State} (mode : Byte) (hs : s.InAccord) :
    (s.leaveSecureAnswer mode).after.InAccord := by
  have dropped : s.dropMarker.InAccord := hs.of_parts rfl
  unfold leaveSecureAnswer
  split_ifs
  · exact hs
  · exact hs
  · exact leaveSecurely_inAccord _ dropped

theorem leaveFastAnswer_inAccord {s : State} (hs : s.InAccord) : s.leaveFastAnswer.after.InAccord := by
  have dropped : s.dropMarker.InAccord := hs.of_parts rfl
  unfold leaveFastAnswer
  split
  · exact hs
  · exact leaveFast_inAccord _ dropped

theorem releaseAnswer_inAccord {s : State} (station : Nat) (hs : s.InAccord) :
    (s.releaseAnswer station).after.InAccord := by
  unfold releaseAnswer
  split
  · exact hs
  · split
    · exact updatePeer_inAccord ‹_› (Peer.afterRelease_lowers ‹_›) hs
    · exact hs

theorem holdAsserted_inAccord {s : State} (hs : s.InAccord) : s.holdAsserted.InAccord := by
  have marked : ({ s with sync.holdLeft := true } : State).InAccord := hs.of_parts rfl
  unfold holdAsserted
  split
  · exact hs
  · split
    case h_5 | h_6 | h_7 => exact hs
    all_goals exact leaveSecurely_inAccord _ marked
  · split
    case h_6 | h_7 => exact hs
    case h_5 => exact leaveFast_inAccord _ hs
    all_goals exact leaveFast_inAccord _ marked

theorem holdReleased_inAccord {s : State} (hs : s.InAccord) : s.holdReleased.InAccord :=
  .ite (fun _ => joinUnasked_inAccord hs) fun _ => hs

/-! ## Starts (R44, R90, R195) -/

theorem startValues_inAccord (s : State) (cause : StartCause) (pins : Pins) (csnLow : Bool) :
    (s.startValues cause pins csnLow).InAccord := by
  have dormant : (none : Option Nat).isSome = true ↔ StationState.dormant = .listen := by decide
  exact ⟨peersAfterStart_length _ _ _, fun j e entry => peersAfterStart_stands _ entry, fun _ => rfl, dormant⟩

theorem finishStart_inAccord (s : State) (cause : StartCause) (pins : Pins) (csnLow : Bool) :
    (s.finishStart cause pins csnLow).InAccord :=
  have started := startValues_inAccord s cause pins csnLow
  .ite (fun _ => changeState_inAccord _ (by decide) started) fun _ =>
    .ite (fun _ => joinUnasked_inAccord started) fun _ => started

/-- What a row does only while no start is in progress (R196). -/
theorem running_inAccord {s u : State} (hs : s.InAccord) (acted : u.InAccord) :
    (if s.running then u else s).InAccord :=
  .ite (fun _ => acted) fun _ => hs

end State

/-! ## Every row -/

/-- Every row keeps the accord: most leave its parts, the others change the station state or lower an entry. -/
theorem exec_inAccord (c : Instr) {s t : State} (run : exec c s = .next t) (hs : s.InAccord) : t.InAccord := by
  have command : ∀ (code : Byte) {act : State → Answer}, (act s).after.accordParts = s.accordParts →
      (s.command code act).InAccord := fun code _ same => State.command_inAccord code hs (hs.of_parts same)
  cases c with
  | readStatus | readConfig | readTime | readEntry | readSchedule | readPeer | readLog | unknownCommand =>
    cases run; exact command _ rfl
  | popEvent => cases run; exact command _ (State.popAnswer_accordParts s)
  | configure => cases run; exact command _ (State.configureAnswer_accordParts s _ _)
  | setAlertMask => cases run; exact command _ (State.maskAnswer_accordParts s _ _)
  | clear => cases run; exact command _ (State.clearAnswer_accordParts s _ _)
  | schedule => cases run; exact command _ (State.scheduleAnswer_accordParts s _ _)
  | propose => cases run; exact command _ (State.proposeAnswer_accordParts s _)
  | cancel => cases run; exact command _ (State.cancelAnswer_accordParts s _)
  | join => cases run; exact State.command_inAccord _ hs (State.joinAnswer_inAccord hs)
  | leaveSecure => cases run; exact State.command_inAccord _ hs (State.leaveSecureAnswer_inAccord _ hs)
  | leaveFast => cases run; exact State.command_inAccord _ hs (State.leaveFastAnswer_inAccord hs)
  | release => cases run; exact State.command_inAccord _ hs (State.releaseAnswer_inAccord _ hs)
  | restart pins =>
    cases run
    exact State.transaction_inAccord hs ((State.finishStart_inAccord s .command pins false).of_parts rfl)
  | response | transactionDiscarded => cases run; exact State.transaction_inAccord hs (hs.of_parts rfl)
  | powerOn | resetnFall => cases run; exact hs.of_parts rfl
  | startEnd pins csnLow =>
    cases run
    split
    · exact State.finishStart_inAccord s _ pins csnLow
    · exact hs
  | holdAssertion =>
    cases run
    have raised : ({ s with port.holdLevel := true } : State).InAccord := hs.of_parts rfl
    exact .ite (fun _ => State.holdAsserted_inAccord raised) fun _ => hs
  | holdRelease =>
    cases run
    have lowered : ({ s with port.holdLevel := false } : State).InAccord := hs.of_parts rfl
    exact .ite (fun _ => State.holdReleased_inAccord lowered) fun _ => hs
  | capEdge => cases run; exact State.running_inAccord hs (hs.of_parts (State.captureEdge_accordParts s _))
  | frameEnd | receiveTimeout => cases run; exact State.running_inAccord hs (State.endFrame_inAccord _ _ _ hs)
  | overdrive =>
    change execOverdrive s = .next t at run
    unfold execOverdrive at run
    split at run
    · cases run; exact State.running_inAccord hs (State.cutByOverdrive_inAccord _ hs)
    · cases run; exact hs
  | beaconSentWhole =>
    change execBeaconSentWhole s = .next t at run
    unfold execBeaconSentWhole at run
    split at run
    · cases run
      have sent : ({ s with
          link.beacon := none
          link.overdriveRun := 0
          link.completeRun := min 255 (s.link.completeRun + 1) } : State).InAccord := hs.of_parts rfl
      exact State.running_inAccord hs (State.beaconEnded_inAccord _ sent)
    · cases run; exact hs
  | ownSendInstant => cases run; exact State.running_inAccord hs (State.takeOwnSend_inAccord hs)
  | windowClose => cases run; exact State.running_inAccord hs (State.takeWindowClose_inAccord hs)
  | epochClose => cases run; exact State.running_inAccord hs (State.takeEpochClose_inAccord hs)
  | slewPoint => cases run; exact State.running_inAccord hs (State.takeSlewRow_inAccord hs)
  | triggerFire handle =>
    cases run; exact State.running_inAccord hs (hs.of_offSchedule (State.fireIfDue_offSchedule s handle))
  | sharedDeadline handle =>
    cases run; exact State.running_inAccord hs (hs.of_offSchedule (State.deadlineIfDue_offSchedule s handle))
  | listenDeadline => cases run; exact State.running_inAccord hs (State.takeListenDeadline_inAccord hs)
  | declinedExpiry | pulseEnd => cases run; exact State.running_inAccord hs (hs.of_parts rfl)
  | startOfFrame => cases run; exact .ite (fun _ => hs.of_parts rfl) fun _ => hs
  | referencePeriod stop =>
    cases run
    exact State.running_inAccord hs (State.runPeriod_inAccord 128 stop (State.beginPeriod_inAccord hs))

/-- Settles O58: every row keeps the table, entry by entry, in accord with the station state. -/
theorem stepKeepsGroupInAccord : Obligations.StepKeepsGroupInAccord := by
  intro s t group run
  rw [State.groupHolds_iff] at group ⊢
  unfold step at run
  split at run
  · cases run
    exact group
  · exact exec_inAccord _ run (group.of_parts rfl)

end Sys2Proof.Machine
end

section
/-!
The correction arithmetic, rounding and trimmed mean first, and the commands that read the epoch log and clear the flags
(R70 to R81, R88, R192).
-/
namespace Sys2Proof.Machine

/-! ## Rounding (R72) -/

/-- A rounded quotient is its floor, or the next integer where a fraction is left (R72). -/
theorem roundQuotient_floor_or_next (mode : Rounding) (num : Int) {den : Nat} (positive : 0 < den) :
    roundQuotient mode num den = num / den ∨
      (num % den ≠ 0 ∧ roundQuotient mode num den = num / den + 1) := by
  cases mode with
  | down => exact .inl rfl
  | up | towardZero | nearestEven =>
    simp only [roundQuotient]
    split_ifs <;> omega

/-- A quotient between two integers is rounded to no value outside them. -/
theorem roundQuotient_between (mode : Rounding) {num low high : Int} {den : Nat} (positive : 0 < den)
    (above : low * den ≤ num) (below : num ≤ high * den) :
    low ≤ roundQuotient mode num den ∧ roundQuotient mode num den ≤ high := by
  have den_pos : (0 : Int) < den := by exact_mod_cast positive
  have low_le : low ≤ num / den := Int.le_ediv_of_mul_le den_pos above
  have le_high : num / den ≤ high := Int.ediv_le_of_le_mul den_pos below
  rcases roundQuotient_floor_or_next mode num positive with floor | ⟨fraction, next⟩
  · omega
  · have short : num ≠ high * den := fun whole => fraction (by rw [whole, Int.mul_emod_left])
    have lt_high : num / den < high := Int.ediv_lt_of_lt_mul den_pos (lt_of_le_of_ne below short)
    omega

theorem roundQuotient_towardZero_of_nonneg {num : Int} (sign : 0 ≤ num) (den : Nat) :
    roundQuotient .towardZero num den = roundQuotient .down num den := by
  simp [roundQuotient, sign]

theorem roundQuotient_towardZero_of_neg {num : Int} (sign : num < 0) (den : Nat) :
    roundQuotient .towardZero num den = roundQuotient .up num den := by
  simp [roundQuotient, sign.not_ge]

section
variable (num : Int) {den : Nat} (positive : 0 < den)
include positive

/-- The quotient taken apart: its floor, and a rest below the divisor. -/
theorem quotient_and_rest : num / den * den + num % den = num ∧ 0 ≤ num % den ∧ num % den < den := by
  have den_pos : (0 : Int) < den := by exact_mod_cast positive
  exact ⟨Int.ediv_mul_add_emod num den, Int.emod_nonneg _ den_pos.ne', Int.emod_lt_of_pos _ den_pos⟩

theorem roundQuotient_down : roundQuotient .down num den * den ≤ num ∧
    num < (roundQuotient .down num den + 1) * den := by
  obtain ⟨whole, least, rest⟩ := quotient_and_rest num positive
  simp only [roundQuotient, add_mul]
  omega

theorem roundQuotient_up : num ≤ roundQuotient .up num den * den ∧
    (roundQuotient .up num den - 1) * den < num := by
  obtain ⟨whole, least, rest⟩ := quotient_and_rest num positive
  simp only [roundQuotient]
  split_ifs with divides
  · rw [sub_mul]
    omega
  · rw [add_sub_cancel_right, add_mul]
    omega

/-- The nearest integer lies half the divisor away at most, and is even when it lies just there. -/
theorem roundQuotient_nearestEven :
    2 * (num - roundQuotient .nearestEven num den * den).natAbs ≤ den ∧
      (2 * (num - roundQuotient .nearestEven num den * den).natAbs = den →
        roundQuotient .nearestEven num den % 2 = 0) := by
  obtain ⟨whole, least, rest⟩ := quotient_and_rest num positive
  simp only [roundQuotient]
  split_ifs with below above even
  · omega
  · rw [add_mul]
    omega
  · omega
  · rw [add_mul]
    omega

end

/-! ## The trimmed mean (R70, R71, R73) -/

/-- Trimming leaves a sample, the own one being there (R71). -/
theorem two_mul_effectiveTrim_lt (trimCount : Nat) {n : Nat} (sampled : 0 < n) :
    2 * effectiveTrim trimCount n < n := by
  unfold effectiveTrim
  omega

theorem sortBy_perm {α : Type} (le : α → α → Bool) (l : List α) : (sortBy le l).Perm l := by
  rw [sortBy_eq_insertionSort]
  exact List.perm_insertionSort _ l

theorem sortBy_le_pairwise (l : List Int) : (sortBy (fun a b => decide (a ≤ b)) l).Pairwise (· ≤ ·) := by
  rw [sortBy_eq_insertionSort]
  simpa using List.pairwise_insertionSort (· ≤ ·) l

theorem keptValues_length (t : Nat) (samples : List Int) :
    (keptValues t samples).length = samples.length - 2 * t := by
  rw [keptValues, List.length_take, List.length_drop, (sortBy_perm _ samples).length_eq]
  omega

theorem mem_of_mem_keptValues {t : Nat} {samples : List Int} {x : Int} (kept : x ∈ keptValues t samples) :
    x ∈ samples :=
  (mem_sortBy _ _ _).1 (List.mem_of_mem_drop (List.mem_of_mem_take kept))

/-- The samples in order are the `t` lowest, the kept values and the `t` highest (R71). -/
theorem keptValues_between {t : Nat} {samples : List Int} (room : 2 * t ≤ samples.length) :
    ∃ low high : List Int, low.length = t ∧ high.length = t ∧
      low ++ keptValues t samples ++ high = sortBy (fun a b => decide (a ≤ b)) samples := by
  have sorted_length := (sortBy_perm (fun a b => decide (a ≤ b)) samples).length_eq
  refine ⟨(sortBy (fun a b => decide (a ≤ b)) samples).take t,
    ((sortBy (fun a b => decide (a ≤ b)) samples).drop t).drop (samples.length - 2 * t), ?_, ?_, ?_⟩
  · rw [List.length_take, sorted_length]
    omega
  · rw [List.length_drop, List.length_drop, sorted_length]
    omega
  · rw [keptValues, List.append_assoc, List.take_append_drop, List.take_append_drop]

/-- The values that a correction takes the mean of: its samples without the trimmed ones (R70, R71). -/
def keptSamples (config : ConfigStore) (leads : List Int) : List Int :=
  keptValues (effectiveTrim config.trimCount (leads.length + 1)) (sampleSet leads)

theorem keptSamples_length (config : ConfigStore) (leads : List Int) : (keptSamples config leads).length =
    leads.length + 1 - 2 * effectiveTrim config.trimCount (leads.length + 1) :=
  keptValues_length _ _

theorem keptSamples_length_pos (config : ConfigStore) (leads : List Int) : 0 < (keptSamples config leads).length := by
  rw [keptSamples_length]
  exact Nat.sub_pos_of_lt (two_mul_effectiveTrim_lt _ (Nat.succ_pos _))

/-- A kept value is the own 0 or a lead, so it lies within a guard of the leads (R73). -/
theorem keptSamples_within {config : ConfigStore} {leads : List Int} {guard : Nat}
    (within : ∀ l ∈ leads, l.natAbs ≤ guard) {x : Int} (kept : x ∈ keptSamples config leads) :
    -(guard : Int) ≤ x ∧ x ≤ guard := by
  have bounded : x.natAbs ≤ guard := by
    rcases List.mem_cons.1 (mem_of_mem_keptValues kept) with rfl | lead
    · exact Nat.zero_le _
    · exact within x lead
  omega

/-! ## What one correction decides (R70 to R81) -/

theorem clampTo_eq_max_min (bound : Nat) (x : Int) : clampTo bound x = max (-(bound : Int)) (min bound x) := by
  unfold clampTo
  split_ifs <;> omega

theorem discards_iff (num : Int) (den : Nat) : discards num den = true ↔ num % den ≠ 0 := by
  simp [discards]

theorem actionOf_eq (state : StationState) (stepThreshold : Nat) (c : Int) : actionOf state stepThreshold c =
    if state = .acquire then (if stepThreshold < c.natAbs then .step else .slew)
    else if state = .track then .slew else .none := by
  cases state <;> simp only [actionOf, Nat.cast_lt, reduceCtorEq, if_true, if_false]

section
variable {config : ConfigStore} {state : StationState} {trim : Int} {leads : List Int} {d : Decision}
  (decides : d = decideCorrection config state trim leads)
include decides

theorem Decision.correction_eq :
    d.correction = roundQuotient config.rounding (keptSamples config leads).sum (keptSamples config leads).length := by
  rw [decides, keptSamples_length]
  rfl

/-- A STEP applies the mean whole and leaves the rate trim (R75, R79). -/
theorem Decision.of_step (step : d.action = .step) : d.applied = d.correction ∧ d.trimAfter = trim := by
  subst decides
  simp only [decideCorrection] at step ⊢
  simp [step]

/-- Without an action nothing is applied and the rate trim stands (R79). -/
theorem Decision.of_none (idle : d.action = .none) : d.applied = 0 ∧ d.trimAfter = trim := by
  subst decides
  simp only [decideCorrection] at idle ⊢
  simp [idle]

/-- A SLEW applies the mean, and moves the rate trim, each held within its limit (R76 to R78). -/
theorem Decision.of_slew (slew : d.action = .slew) : d.applied = clampTo config.slewMax d.correction ∧
    d.trimAfter = clampTo trimLimit
      (roundQuotient config.rounding (64 * trim + d.correction * config.gain) 64) := by
  subst decides
  simp only [decideCorrection] at slew ⊢
  simp [slew]

theorem Decision.empty_iff : d.flags.empty = true ↔ leads = [] := by
  subst decides
  simp [decideCorrection, sampleSet]

theorem Decision.reduced_iff : d.flags.reduced = true ↔ d.effectiveTrim < config.trimCount := by
  subst decides
  exact decide_eq_true_iff

/-- CLAMPED is raised where a SLEW applies another amount than the mean (R80). -/
theorem Decision.clamped_iff : d.flags.clamped = true ↔ d.action = .slew ∧ d.applied ≠ d.correction := by
  have flag : d.flags.clamped = (d.action == .slew && clampTo config.slewMax d.correction != d.correction) := by
    rw [decides]; rfl
  rw [flag, Bool.and_eq_true, beq_iff_eq, bne_iff_ne]
  exact and_congr_right fun slew => by rw [(Decision.of_slew decides slew).1]

/-- SATURATED is raised where a SLEW leaves another rate trim than the rounded one (R80). -/
theorem Decision.saturated_iff : d.flags.saturated = true ↔ d.action = .slew ∧
    d.trimAfter ≠ roundQuotient config.rounding (64 * trim + d.correction * config.gain) 64 := by
  have flag : d.flags.saturated = (d.action == .slew &&
      clampTo trimLimit (roundQuotient config.rounding (64 * trim + d.correction * config.gain) 64) !=
        roundQuotient config.rounding (64 * trim + d.correction * config.gain) 64) := by
    rw [decides]; rfl
  rw [flag, Bool.and_eq_true, beq_iff_eq, bne_iff_ne]
  exact and_congr_right fun slew => by rw [(Decision.of_slew decides slew).2]

/-- INEXACT is raised where the mean, or the new rate trim of a SLEW, loses a fraction (R80). -/
theorem Decision.inexact_iff : d.flags.inexact = true ↔
    (keptSamples config leads).sum % (keptSamples config leads).length ≠ 0 ∨
      (d.action = .slew ∧ (64 * trim + d.correction * config.gain) % 64 ≠ 0) := by
  have flag : d.flags.inexact = (discards (keptSamples config leads).sum (keptSamples config leads).length ||
      (d.action == .slew && discards (64 * trim + d.correction * config.gain) 64)) := by
    rw [decides, keptSamples_length]; rfl
  rw [flag, Bool.or_eq_true, Bool.and_eq_true, beq_iff_eq, discards_iff, discards_iff, Nat.cast_ofNat]

theorem Decision.resultClass_eq : d.resultClass = classOf d.correction := by
  rw [decides]
  rfl

end

/-- Settles O47: each mode is read off the quotient and its rest; the mean lies between the least and the greatest value
that the guard admits, and rounding does not leave these. -/
theorem roundedMeanStaysWithinTheGuard : Obligations.RoundedMeanStaysWithinTheGuard := by
  refine ⟨fun num den positive => ⟨?_, ?_, ?_, ?_⟩, fun config state trim leads guard within => ?_⟩
  · rintro q rfl
    exact roundQuotient_down num positive
  · rintro q rfl
    exact roundQuotient_up num positive
  · rintro q rfl
    refine ⟨fun sign => ?_, fun sign => ?_⟩
    · obtain ⟨below, above⟩ := roundQuotient_down num positive
      rw [roundQuotient_towardZero_of_nonneg sign]
      exact ⟨Int.ediv_nonneg sign (Int.natCast_nonneg den), below, above⟩
    · obtain ⟨above, below⟩ := roundQuotient_up num positive
      rw [roundQuotient_towardZero_of_neg sign]
      have at_most : roundQuotient .up num den - 1 < 0 :=
        neg_of_mul_neg_left (below.trans sign) (Int.natCast_nonneg den)
      exact ⟨by omega, above, below⟩
  · rintro q rfl
    exact roundQuotient_nearestEven num positive
  · rw [Decision.correction_eq rfl]
    have bounds := fun x => keptSamples_within (config := config) within (x := x)
    have least := List.card_nsmul_le_sum (keptSamples config leads) (-(guard : Int)) fun x kept => (bounds x kept).1
    have most := List.sum_le_card_nsmul (keptSamples config leads) (guard : Int) fun x kept => (bounds x kept).2
    rw [nsmul_eq_mul, mul_comm] at least most
    obtain ⟨low, high⟩ :=
      roundQuotient_between config.rounding (keptSamples_length_pos config leads) least most
    omega

/-- Settles O48: each field of the decision is the model's, the kept values the middle of the samples in order. -/
theorem decisionFollowsTheMean : Obligations.DecisionFollowsTheMean := by
  intro config state trim leads d decides
  have samples : d.samples = leads.length + 1 := by rw [decides]; rfl
  have trimmed : d.effectiveTrim = effectiveTrim config.trimCount (leads.length + 1) := by rw [decides]; rfl
  have room := two_mul_effectiveTrim_lt config.trimCount (Nat.succ_pos leads.length)
  obtain ⟨low, high, low_length, high_length, ordered⟩ := keptValues_between (samples := sampleSet leads) room.le
  refine ⟨samples, trimmed, ?_, Decision.of_step decides, Decision.of_none decides, fun slew => ?_,
    Decision.empty_iff decides, Decision.reduced_iff decides, Decision.clamped_iff decides,
    Decision.saturated_iff decides, keptSamples config leads, ?_, ⟨low, high, ?_, ?_, ?_, ?_⟩,
    Decision.correction_eq decides, Decision.inexact_iff decides⟩
  · rw [← actionOf_eq, decides]
    rfl
  · obtain ⟨applied, moved⟩ := Decision.of_slew decides slew
    exact ⟨applied.trans (clampTo_eq_max_min _ _), moved.trans (clampTo_eq_max_min trimLimit _)⟩
  · rw [keptSamples_length, samples, trimmed]
  · rw [low_length, trimmed]
  · rw [high_length, trimmed]
  · exact ordered ▸ sortBy_perm _ (0 :: leads)
  · exact ordered ▸ sortBy_le_pairwise (0 :: leads)

/-- Settles O49: the class is `classOf` of the mean, and the record takes it over. -/
theorem resultClassIsTheSignOfC : Obligations.ResultClassIsTheSignOfC := by
  refine ⟨fun config state trim leads d decides => ?_, fun epoch state d => rfl⟩
  rw [Decision.resultClass_eq decides]
  refine ⟨fun below => ?_, fun zero => ?_, fun above => ?_⟩
  · simp [classOf, below]
  · simp [classOf, zero]
  · simp [classOf, above.not_gt, above.ne']

/-! ## Commands whose work is known (R180) -/

/-- A command taken leaves its work and the answer to it. -/
theorem State.command_answers {s after : State} {act : State → Answer} {code : Byte} {params : Nat}
    {response : ResponseCode} {body : ResponseBody} (takes : s.takes = true) (bytes : paramBytes code = params)
    (answers : act s = ⟨after, response, body⟩) (serial : after.port.serial = s.port.serial) :
    s.command code act = after.answered code params response body := by
  rw [State.command_takes takes, answers]
  exact State.respond_eq_answered serial bytes

/-! ## READ LOG (R88) -/

theorem exec_readLog {s : State} (takes : s.takes = true) (age : Byte) : exec (.readLog age) s =
    .next (s.answered 0x16 1 (s.readLogAnswer age).1 (s.readLogAnswer age).2) :=
  congrArg Host.Outcome.next (State.command_answers takes rfl rfl rfl)

/-- Settles O10: below 16 the age finds a record or none. -/
theorem readLogReportsByAge : Obligations.ReadLogReportsByAge := by
  intro s age takes
  rw [exec_readLog takes]
  refine ⟨fun r young record => ?_, fun young beyond => ?_, fun old => ?_⟩
  · have answer : s.readLogAnswer age = (.ok, .log r.asRead) := by
      simp [State.readLogAnswer, young.not_ge, record]
    rw [answer]
    rfl
  · have answer : s.readLogAnswer age = (.empty, .nothing) := by
      simp [State.readLogAnswer, young.not_ge, beyond]
    rw [answer]
    rfl
  · have answer : s.readLogAnswer age = (.invalid, .nothing) := by
      simp [State.readLogAnswer, old]
    rw [answer]
    rfl

/-! ## CLEAR (R192) -/

/-- The state with the alert flags of `a` lowered and the correction flags of `c` removed. -/
def State.cleared (s : State) (a : AlertSet) (c : CorrFlags) : State :=
  { s with port.alerts := s.port.alerts.minus a, correction.sticky := s.correction.sticky.minus c }

/-- Two bytes that name flags alone clear them. -/
theorem State.clearAnswer_named (s : State) {a c : Byte} (alerts : a.toNat < 32) (flags : c.toNat < 32) :
    s.clearAnswer a c = ⟨s.cleared (.ofBits a) (.ofBits c), .ok, .nothing⟩ := by
  simp only [clearAnswer, alertSetOf, corrFlagsOf, alerts, flags, if_true]
  rfl

/-- A byte with one of bits 5 to 7 set names no flags, and nothing is cleared (R192). -/
theorem State.clearAnswer_invalid (s : State) {a c : Byte} (unnamed : 32 ≤ a.toNat ∨ 32 ≤ c.toNat) :
    s.clearAnswer a c = ⟨s, .invalid, .nothing⟩ := by
  unfold clearAnswer
  split
  case h_1 alerts flags =>
    simp only [alertSetOf, corrFlagsOf, Option.ite_none_right_eq_some] at alerts flags
    omega
  all_goals rfl

/-- Settles O15: what is cleared is `minus`, flag by flag. -/
theorem clearLowersTheNamedFlags : Obligations.ClearLowersTheNamedFlags := by
  intro s a c takes
  refine ⟨fun alerts flags => ⟨s.cleared (.ofBits a) (.ofBits c), ?_, rfl, rfl, rfl, rfl, rfl, rfl, rfl⟩,
    fun unnamed => ?_⟩
  · exact congrArg Host.Outcome.next (State.command_answers takes rfl (s.clearAnswer_named alerts flags) rfl)
  · exact congrArg Host.Outcome.next (State.command_answers takes rfl (s.clearAnswer_invalid unnamed) rfl)

end Sys2Proof.Machine
end

section
/-!
The station's way in and out: JOIN, LEAVE, the HOLD pin and the listen deadline, with the expiries and the pulse ends
that stand beside them (R94, R95, R99, R108 to R114, R124, R125, R161).
-/
namespace Sys2Proof.Machine
namespace State

/-! ## JOIN (R94, R95) -/

theorem joinRefusal_awake {s : State} (awake : s.sync.state ≠ .dormant) : s.joinRefusal = some .state := if_pos awake

theorem joinRefusal_held {s : State} (dormant : s.sync.state = .dormant) (bars : s.holdBars) :
    s.joinRefusal = some .held := by
  simp [joinRefusal, dormant, bars]

theorem joinRefusal_misfit {s : State} (dormant : s.sync.state = .dormant) (free : ¬ s.holdBars)
    (misfit : ¬ s.boundsFit) : s.joinRefusal = some .invalid := by
  have free : ¬ (s.port.holdLevel = true ∧ s.port.config.holdReaction ≠ .none) := free
  rw [boundsFit_iff_crossChecks, Bool.not_eq_true] at misfit
  rw [joinRefusal, if_neg (not_not.2 dormant), if_neg free, misfit]
  rfl

theorem joinRefusal_fit {s : State} (dormant : s.sync.state = .dormant) (free : ¬ s.holdBars) (fit : s.boundsFit) :
    s.joinRefusal = none := by
  have free : ¬ (s.port.holdLevel = true ∧ s.port.config.holdReaction ≠ .none) := free
  rw [boundsFit_iff_crossChecks] at fit
  rw [joinRefusal, if_neg (not_not.2 dormant), if_neg free, fit]
  rfl

theorem joinAnswer_refused {s : State} {code : ResponseCode} (refused : s.joinRefusal = some code) :
    s.joinAnswer = ⟨s, code, .nothing⟩ := by
  rw [joinAnswer, refused]
  rfl

theorem joinAnswer_accepted {s : State} (accepted : s.joinRefusal = none) :
    s.joinAnswer = ⟨s.acceptJoin, .ok, .nothing⟩ := by
  rw [joinAnswer, accepted]
  rfl

theorem joinUnasked_accepted {s : State} (accepted : s.joinRefusal = none) : s.joinUnasked = s.acceptJoin := by
  rw [joinUnasked, accepted]

/-! ## Leaving (R108, R110, R113) -/

theorem leaveSecurely_transmitting {s : State}
    (joined : s.sync.state = .acquire ∨ s.sync.state = .track ∨ s.sync.state = .holdover) (cause : Cause) :
    s.leaveSecurely cause = s.changeState .leaving cause := by
  obtain state | state | state := joined <;> simp only [leaveSecurely, state]

theorem leaveSecurely_listen {s : State} (listening : s.sync.state = .listen) (cause : Cause) :
    s.leaveSecurely cause = s.changeState .dormant cause := by
  simp only [leaveSecurely, listening]

theorem leaveSecurely_out {s : State} (out : s.sync.state = .leaving ∨ s.sync.state = .dormant) (cause : Cause) :
    s.leaveSecurely cause = s := by
  obtain state | state := out <;> simp only [leaveSecurely, state]

theorem leaveFast_out {s : State} (dormant : s.sync.state = .dormant) (cause : Cause) : s.leaveFast cause = s := by
  simp only [leaveFast, dormant]

theorem leaveFast_joined {s : State} (halted : s.sync.state ≠ .halted) (dormant : s.sync.state ≠ .dormant)
    (cause : Cause) : s.leaveFast cause = s.changeState .dormant cause := by
  unfold leaveFast
  split
  case h_6 state => exact absurd state dormant
  case h_7 state => exact absurd state halted
  all_goals rfl

theorem leaveSecureAnswer_unnamed {s : State} {mode : Byte} (unnamed : mode ≠ 1) :
    s.leaveSecureAnswer mode = ⟨s, .invalid, .nothing⟩ := if_pos unnamed

theorem leaveSecureAnswer_halted {s : State} (halted : s.sync.state = .halted) :
    s.leaveSecureAnswer 1 = ⟨s, .state, .nothing⟩ := by
  simp [leaveSecureAnswer, halted, refusal]

theorem leaveSecureAnswer_taken {s : State} (running : s.sync.state ≠ .halted) :
    s.leaveSecureAnswer 1 = ⟨s.dropMarker.leaveSecurely .leaveSecure, .ok, .nothing⟩ := by
  simp [leaveSecureAnswer, running, answerOk]

theorem leaveFastAnswer_halted {s : State} (halted : s.sync.state = .halted) :
    s.leaveFastAnswer = ⟨s, .state, .nothing⟩ := if_pos halted

theorem leaveFastAnswer_taken {s : State} (running : s.sync.state ≠ .halted) :
    s.leaveFastAnswer = ⟨s.dropMarker.leaveFast .leaveFast, .ok, .nothing⟩ := if_neg running

theorem changeState_serial (s : State) (new : StationState) (cause : Cause) :
    (s.changeState new cause).port.serial = s.port.serial :=
  portStill_serial (changeState_portStill s new cause)

/-! ## The HOLD pin (R112 to R114) -/

theorem holdAsserted_idle {s : State} (idle : s.port.config.holdReaction = .none ∨ s.sync.state = .dormant ∨
    s.sync.state = .halted) : s.holdAsserted = s := by
  obtain reaction | state | state := idle
  · simp only [holdAsserted, reaction]
  all_goals cases reaction : s.port.config.holdReaction <;> simp only [holdAsserted, reaction, state]

theorem holdAsserted_secure_leaving {s : State} (reaction : s.port.config.holdReaction = .secure)
    (leaving : s.sync.state = .leaving) : s.holdAsserted = s := by
  simp only [holdAsserted, reaction, leaving]

theorem holdAsserted_secure {s : State} (reaction : s.port.config.holdReaction = .secure)
    (joined : s.sync.state = .listen ∨ s.sync.state = .acquire ∨ s.sync.state = .track ∨ s.sync.state = .holdover) :
    s.holdAsserted = ({ s with sync.holdLeft := true } : State).leaveSecurely .holdSecure := by
  obtain state | state | state | state := joined <;> simp only [holdAsserted, reaction, state]

theorem holdAsserted_fast_leaving {s : State} (reaction : s.port.config.holdReaction = .fast)
    (leaving : s.sync.state = .leaving) : s.holdAsserted = s.leaveFast .holdFast := by
  simp only [holdAsserted, reaction, leaving]

theorem holdAsserted_fast {s : State} (reaction : s.port.config.holdReaction = .fast)
    (joined : s.sync.state = .listen ∨ s.sync.state = .acquire ∨ s.sync.state = .track ∨ s.sync.state = .holdover) :
    s.holdAsserted = ({ s with sync.holdLeft := true } : State).leaveFast .holdFast := by
  obtain state | state | state | state := joined <;> simp only [holdAsserted, reaction, state]

theorem holdReleased_stays {s : State} (stays : s.port.config.holdReaction = .none ∨ s.sync.state ≠ .dormant ∨
    s.sync.holdLeft = false) : s.holdReleased = s := by
  refine if_neg fun rejoins => ?_
  obtain ⟨reacts, dormant, left⟩ := rejoins
  obtain reaction | awake | unmarked := stays
  · exact reacts reaction
  · exact awake dormant
  · exact Bool.false_ne_true (unmarked.symm.trans left)

theorem holdReleased_rejoins {s : State} (reacts : s.port.config.holdReaction ≠ .none)
    (dormant : s.sync.state = .dormant) (left : s.sync.holdLeft = true) : s.holdReleased = s.joinUnasked :=
  if_pos ⟨reacts, dormant, left⟩

end State

/-! ## The rows of JOIN and LEAVE -/

/-- Settles O17: the checks in order, and an accepted JOIN block by block. -/
theorem joinEntersListen : Obligations.JoinEntersListen := by
  intro s takes
  have refused : ∀ code, s.joinRefusal = some code → exec .join s = .next (s.declined 0x30 0 code) :=
    fun _ refusal => congrArg Host.Outcome.next
      (State.command_answers takes rfl (State.joinAnswer_refused refusal) rfl)
  refine ⟨fun awake => refused _ (State.joinRefusal_awake awake),
    fun dormant bars => refused _ (State.joinRefusal_held dormant bars),
    fun dormant free misfit => refused _ (State.joinRefusal_misfit dormant free misfit),
    fun dormant free fit => ⟨s.acceptJoin, ?_, ?_⟩⟩
  · exact congrArg Host.Outcome.next
      (State.command_answers takes rfl (State.joinAnswer_accepted (State.joinRefusal_fit dormant free fit))
        (State.portStill_serial (State.still_portStill s.acceptJoin_still)))
  · have stays : s.sync.state.agrees = false := by rw [dormant]; rfl
    rw [State.acceptJoin_eq stays, ← State.cleared_eq_clearedEntry]
    exact ⟨rfl, rfl, rfl, rfl, rfl, rfl, rfl, rfl, rfl⟩

/-- Settles O18: a mode and a station state at a time, the marker dropped before the state change. -/
theorem leaveByModeAndState : Obligations.LeaveByModeAndState := by
  have secure : ∀ {s after : State} {mode : Byte} {code : ResponseCode}, s.takes = true →
      s.leaveSecureAnswer mode = ⟨after, code, .nothing⟩ → after.port.serial = s.port.serial →
      exec (.leaveSecure mode) s = .next (after.answered 0x31 1 code .nothing) :=
    fun takes answers serial => congrArg Host.Outcome.next (State.command_answers takes rfl answers serial)
  have fast : ∀ {s after : State} {code : ResponseCode}, s.takes = true →
      s.leaveFastAnswer = ⟨after, code, .nothing⟩ → after.port.serial = s.port.serial →
      exec .leaveFast s = .next (after.answered 0x31 1 code .nothing) :=
    fun takes answers serial => congrArg Host.Outcome.next (State.command_answers takes rfl answers serial)
  refine ⟨fun s takes => ⟨fun mode other _ => ?_, fun halted => ?_, fun joined => ?_, fun listening => ?_,
    fun out => ?_⟩, fun s takes => ⟨fun halted => ?_, fun dormant => ?_, fun running joined => ?_⟩⟩
  · exact secure takes (State.leaveSecureAnswer_unnamed other) rfl
  · exact secure takes (State.leaveSecureAnswer_halted halted) rfl
  · have running : s.sync.state ≠ .halted := by obtain h | h | h := joined <;> simp [h]
    refine secure takes ?_ (State.changeState_serial s.dropMarker _ _)
    rw [State.leaveSecureAnswer_taken running, State.leaveSecurely_transmitting (s := s.dropMarker) joined]
    rfl
  · refine secure takes ?_ (State.changeState_serial s.dropMarker _ _)
    rw [State.leaveSecureAnswer_taken (by simp [listening]), State.leaveSecurely_listen (s := s.dropMarker) listening]
    rfl
  · have running : s.sync.state ≠ .halted := by obtain h | h := out <;> simp [h]
    refine secure takes ?_ rfl
    rw [State.leaveSecureAnswer_taken running, State.leaveSecurely_out (s := s.dropMarker) out]
    rfl
  · exact fast takes (State.leaveFastAnswer_halted halted) rfl
  · refine fast takes ?_ rfl
    rw [State.leaveFastAnswer_taken (by simp [dormant]), State.leaveFast_out (s := s.dropMarker) dormant]
    rfl
  · refine fast takes ?_ (State.changeState_serial s.dropMarker _ _)
    rw [State.leaveFastAnswer_taken running, State.leaveFast_joined (s := s.dropMarker) running joined]
    rfl

/-! ## The rows of the HOLD pin -/

theorem exec_holdAssertion_high {s : State} (high : s.port.holdLevel = true) : exec .holdAssertion s = .next s :=
  congrArg Host.Outcome.next (if_neg (by simp [high]))

theorem exec_holdAssertion_low {s : State} (running : s.port.starting = none) (low : s.port.holdLevel = false) :
    exec .holdAssertion s = .next ({ s with port.holdLevel := true } : State).holdAsserted :=
  congrArg Host.Outcome.next (if_pos (by simp [State.running, running, low]))

theorem exec_holdRelease_low {s : State} (low : s.port.holdLevel = false) : exec .holdRelease s = .next s :=
  congrArg Host.Outcome.next (if_neg (by simp [low]))

theorem exec_holdRelease_high {s : State} (running : s.port.starting = none) (high : s.port.holdLevel = true) :
    exec .holdRelease s = .next ({ s with port.holdLevel := false } : State).holdReleased :=
  congrArg Host.Outcome.next (if_pos (by simp [State.running, running, high]))

/-- Settles O19: the level first, then the reaction by station state. -/
theorem holdAssertionByReaction : Obligations.HoldAssertionByReaction := by
  intro s running
  refine ⟨exec_holdAssertion_high, fun low u hu => ?_⟩
  have row : exec .holdAssertion s = .next u.holdAsserted := by rw [exec_holdAssertion_low running low, ← hu]
  have config : u.port.config = s.port.config := by rw [hu]
  have sync : u.sync = s.sync := by rw [hu]
  rw [row, ← config, ← sync]
  refine ⟨fun idle => ?_, fun reaction leaving => ?_, fun reaction listening => ?_, fun reaction joined => ?_,
    fun reaction leaving => ?_, fun reaction joined => ?_⟩
  · rw [State.holdAsserted_idle idle]
  · rw [State.holdAsserted_secure_leaving reaction leaving]
  · rw [State.holdAsserted_secure reaction (.inl listening)]
    exact congrArg Host.Outcome.next
      (State.leaveSecurely_listen (s := { u with sync.holdLeft := true }) listening _)
  · rw [State.holdAsserted_secure reaction (.inr joined)]
    exact congrArg Host.Outcome.next
      (State.leaveSecurely_transmitting (s := { u with sync.holdLeft := true }) joined _)
  · rw [State.holdAsserted_fast_leaving reaction leaving,
      State.leaveFast_joined (by simp [leaving]) (by simp [leaving])]
  · rw [State.holdAsserted_fast reaction joined]
    refine congrArg Host.Outcome.next (State.leaveFast_joined (s := { u with sync.holdLeft := true }) ?_ ?_ _)
    all_goals obtain state | state | state | state := joined <;> simp [state]

/-- An entry to DORMANT with the marker set and HOLD released is followed by the JOIN of R95 (R91, R114). -/
theorem State.changeState_rejoins {s : State} (left : s.sync.holdLeft = true) (released : s.port.holdLevel = false)
    (fit : s.boundsFit) (cause : Cause) : s.changeState .dormant cause = (s.enter .dormant cause).acceptJoin := by
  have kept := State.still_portStill (State.enter_still s .dormant cause)
  have entered : (s.enter .dormant cause).sync = s.sync.enter .dormant cause := State.enter_sync s .dormant cause
  have released' : (s.enter .dormant cause).port.holdLevel = false := (State.portStill_holdLevel kept).trans released
  have fit' : (s.enter .dormant cause).boundsFit := by
    simpa only [State.boundsFit, State.straps, State.portStill_config kept, State.portStill_straps kept] using fit
  have accepted : (s.enter .dormant cause).joinRefusal = none :=
    State.joinRefusal_fit (by rw [entered]; rfl) (by simp [released']) fit'
  rw [← State.joinUnasked_accepted accepted]
  exact if_pos ⟨rfl, by rw [entered]; exact left, by rw [released']; rfl⟩

/-- Settles O20: both rejoins are an accepted JOIN from DORMANT, with HOLD low. -/
theorem holdReleaseRejoins : Obligations.HoldReleaseRejoins := by
  refine ⟨fun s running => ⟨exec_holdRelease_low, fun high => ⟨fun stays => ?_, fun reacts dormant left fit => ?_⟩⟩,
    ?_⟩
  · rw [exec_holdRelease_high running high]
    exact congrArg Host.Outcome.next (State.holdReleased_stays (s := { s with port.holdLevel := false }) stays)
  · obtain ⟨u, hu⟩ : ∃ u, u = ({ s with port.holdLevel := false } : State) := ⟨_, rfl⟩
    have accepted : u.joinRefusal = none := by
      rw [hu]
      exact State.joinRefusal_fit dormant (fun bars => Bool.false_ne_true bars.1) fit
    have stays : u.sync.state.agrees = false := by rw [hu]; exact dormant ▸ rfl
    have rejoins : u.holdReleased = u.joinUnasked := by
      rw [hu]
      exact State.holdReleased_rejoins reacts dormant left
    have row : exec .holdRelease s = .next u.acceptJoin := by
      rw [exec_holdRelease_high running high, ← hu, rejoins, State.joinUnasked_accepted accepted]
    rw [row, State.acceptJoin_eq stays, ← State.cleared_eq_clearedEntry, hu]
    exact ⟨_, rfl, rfl, rfl, rfl, rfl, rfl, rfl, rfl, rfl, rfl, rfl, rfl, rfl, rfl⟩
  · rintro s cause left released fit t rfl
    rw [State.changeState_rejoins left released fit]
    have still := State.enter_still s .dormant cause
    have state : (s.enter .dormant cause).sync.state = .dormant := by rw [State.enter_sync]; rfl
    generalize s.enter .dormant cause = u at still state
    have holder : u.port.holder = s.port.holder := congrArg (·.2.2.1.holder) still
    have serial : u.port.serial = s.port.serial := congrArg (·.2.2.1.serial) still
    have timebase := State.still_timebase still
    have straps := State.portStill_straps (State.still_portStill still)
    have until' : u.deadlineFromNow = s.listenUntil := by
      simp only [State.deadlineFromNow, State.listenUntil, State.epochLen, State.own, State.straps, straps,
        State.now_eq_of_timebase timebase]
    rw [State.acceptJoin_eq (by rw [state]; rfl), until']
    exact ⟨rfl, rfl, rfl, rfl, rfl, rfl, holder, serial, timebase, State.still_correction still⟩

/-! ## The listen deadline, expiries and pulses (R99, R124, R125, R161) -/

theorem exec_listenDeadline {s : State} (running : s.port.starting = none) :
    exec .listenDeadline s = .next s.takeListenDeadline :=
  congrArg Host.Outcome.next (if_pos (State.running_of_not_starting running))

theorem exec_pulseEnd {s : State} (running : s.port.starting = none) (l : Fin 4) :
    exec (.pulseEnd l) s = .next (s.endPulse l) :=
  congrArg Host.Outcome.next (if_pos (State.running_of_not_starting running))

theorem Line.ended_of_pos {l : Line} (remains : 0 < l.remaining) : l.ended = l := if_neg (by omega)

theorem Line.ended_of_zero {l : Line} (ended : l.remaining = 0) : l.ended = { l with active := false } := if_pos ended

/-- The end of a pulse looks at one line. -/
theorem State.endPulse_eq {s : State} {l : Fin 4} {x : Line} (line : s.schedule.lines[l.val]? = some x) :
    s.endPulse l = { s with schedule.lines := s.schedule.lines.set l x.ended } := by
  rw [State.endPulse, List.modify_eq_set_getElem?, line]
  rfl

theorem ConfigStore.activeLevel_eq (c : ConfigStore) (l : Fin 4) :
    [c.level0, c.level1, c.level2, c.level3][l.val]? = some (c.activeLevel l) := by
  match l with
  | 0 | 1 | 2 | 3 => rfl

/-- Settles O45: each row by whether it is due, and the pin by the line that the schedule holds. -/
theorem deadlineExpiryAndPulseEnd : Obligations.DeadlineExpiryAndPulseEnd := by
  refine ⟨fun s running => ⟨fun listening due => ?_, fun notDue => ?_, ?_, fun l x line => ⟨fun ended => ?_,
    fun remains => ?_⟩⟩, fun s l x level line configured => ?_⟩
  · rw [exec_listenDeadline running]
    exact congrArg Host.Outcome.next (if_pos ⟨listening, due⟩)
  · rw [exec_listenDeadline running]
    exact congrArg Host.Outcome.next (if_neg fun founds => notDue.elim (· founds.1) (· founds.2))
  · exact congrArg Host.Outcome.next (if_pos (State.running_of_not_starting running))
  · rw [exec_pulseEnd running, State.endPulse_eq line, Line.ended_of_zero ended]
  · obtain ⟨inRange, entry⟩ := List.getElem?_eq_some_iff.1 line
    rw [exec_pulseEnd running, State.endPulse_eq line, Line.ended_of_pos remains, ← entry, List.set_getElem_self]
  · obtain rfl : s.port.config.activeLevel l = level :=
      Option.some.inj ((s.port.config.activeLevel_eq l).symm.trans configured)
    have driven : s.schedule.lines.getD l Line.off = x := by rw [List.getD_eq_getElem?_getD, line]; rfl
    rw [State.trgHigh, driven, Bool.and_eq_true, Option.isNone_iff_eq_none, beq_iff_eq, Bool.eq_iff_iff, beq_iff_eq]

end Sys2Proof.Machine
end

section
/-!
What a correction result does to the sync controller: the merge test, the runs, and the state change that they bring,
made of the state that the correction has left (R91, R100 to R107, R157).
-/
namespace Sys2Proof.Machine

/-! ## The merge test (R106) -/

/-- The lowest number of a set stands in it, and none below it does. -/
theorem lowest_eq_some {set : StationSet} {low : Nat} :
    lowest set = some low ↔ low < 32 ∧ inSet set low = true ∧ ∀ j, j < low → inSet set j = false := by
  simp [lowest, and_left_comm]

theorem lowest_eq_none {set : StationSet} : lowest set = none ↔ ∀ j, j < 32 → inSet set j = false := by
  simp [lowest]

namespace State

/-- The lowest number of the own group is the own number or that of a MEMBER (R106). -/
theorem lt_lowestOwn_iff (s : State) (low : Nat) :
    low < s.lowestOwn ↔ low < ownNumber s.straps ∧ ∀ j, j < 32 → s.memberAt j → low < j := by
  unfold lowestOwn
  cases first : lowest s.memberView with
  | none =>
    have alone := lowest_eq_none.1 first
    refine ⟨fun below => ⟨below, fun j inRange member => ?_⟩, And.left⟩
    exact absurd ((inSet_memberView s inRange).2 member) (by simp [alone j inRange])
  | some m =>
    obtain ⟨inRange, member, least⟩ := lowest_eq_some.1 first
    simp only [lt_min_iff]
    refine and_congr_right fun _ => ⟨fun below j jRange hj => ?_, fun below => ?_⟩
    · refine below.trans_le (Nat.le_of_not_lt fun before => ?_)
      exact absurd ((inSet_memberView s jRange).2 hj) (by simp [least j before])
    · exact below m inRange ((inSet_memberView s inRange).1 member)

theorem mergeCalls_iff (s : State) : s.mergeCalls ↔ ∃ low, lowest s.sync.foreign = some low ∧
    (s.memberCount + 1 < cardinality s.sync.foreign ∨
      cardinality s.sync.foreign = s.memberCount + 1 ∧ low < s.lowestOwn) := by
  simp only [mergeCalls, lowest_eq_some, lt_lowestOwn_iff, and_assoc, memberCount]

theorem mergeCalled_iff (s : State) : s.mergeCalled = true ↔ s.mergeCalls := by
  rw [mergeCalls_iff, mergeCalled]
  cases lowest s.sync.foreign <;> simp

/-! ## A state change with other runs (R91) -/

theorem post_withSync (s : State) (z : Sync) (r : EventRecord) :
    ({ s with sync := z } : State).post r = { s.post r with sync := z } := by
  unfold post
  dsimp only
  split <;> rfl

theorem endProposal_withSync (s : State) (z : Sync) (h : Nat) :
    ({ s with sync := z } : State).endProposal h = { s.endProposal h with sync := z } := by
  unfold endProposal
  dsimp only
  split <;> rfl

theorem abandonSlot_withSync (s : State) (z : Sync) (h : Nat) :
    ({ s with sync := z } : State).abandonSlot h = { s.abandonSlot h with sync := z } := by
  have pending : ({ s with sync := z } : State).pendingEntry h = s.pendingEntry h := rfl
  have freed : ({ s with sync := z } : State).setSlot h none = { s.setSlot h none with sync := z } := rfl
  unfold abandonSlot
  rw [pending]
  split
  · rw [abandon, freed, endProposal_withSync, post_withSync]
    rfl
  · rfl

theorem abandonPending_withSync (s : State) (z : Sync) :
    ({ s with sync := z } : State).abandonPending = { s.abandonPending with sync := z } :=
  foldl_alike (R := fun t u => t = { u with sync := z })
    (fun t u h same => by rw [same, abandonSlot_withSync]) (List.range 16) rfl

/-- A state change sets every run to 0, so it is the same whatever they were (R91). -/
theorem changeState_counted {s : State} {z : Sync} {new : StationState} {cause : Cause} (joined : new ≠ .dormant)
    (state : z.state = s.sync.state) (counted : z.enter new cause = s.sync.enter new cause) :
    ({ s with sync := z } : State).changeState new cause = s.changeState new cause := by
  obtain ⟨u, hu⟩ : ∃ u : State, u = { s with sync := z } := ⟨_, rfl⟩
  have left : u.leftFor new = { s.leftFor new with sync := z } := by
    unfold leftFor
    rw [hu, state, abandonPending_withSync]
    split <;> rfl
  have sync : u.sync.enter new cause = s.sync.enter new cause := by rw [hu]; exact counted
  rw [← hu, changeState_plain _ _ joined, changeState_plain _ _ joined, enter_eq (s := u) cause rfl,
    enter_eq (s := s) cause rfl, sync, left, hu]

theorem changeState_sync {s : State} {new : StationState} (cause : Cause) (joined : new ≠ .dormant) :
    (s.changeState new cause).sync = s.sync.enter new cause := by
  rw [changeState_plain _ _ joined, enter_sync]

/-! ## The runs of the station state (R101, R102, R104) -/

theorem lockStep_eq (s : State) (c : Int) (action : Action) : s.lockStep c action =
    if c.natAbs ≤ s.port.config.lockWindow ∧ action ≠ .step then
      if 7 ≤ s.sync.lockRun then s.changeState .track .locked else { s with sync.lockRun := s.sync.lockRun + 1 }
    else { s with sync.lockRun := 0 } := by
  unfold lockStep
  simp only []
  by_cases close : c.natAbs ≤ s.port.config.lockWindow ∧ action ≠ .step
  · rw [if_pos close, if_pos close]
    exact if_congr (by omega) (changeState_counted (by decide) rfl rfl) rfl
  · rw [if_neg close, if_neg close]
    rfl

theorem unlockStep_eq (s : State) (c : Int) : s.unlockStep c =
    if s.port.config.unlockBound < c.natAbs then
      if 2 ≤ s.sync.unlockRun then s.changeState .holdover .unlocked
      else { s with sync.unlockRun := s.sync.unlockRun + 1 }
    else { s with sync.unlockRun := 0 } := by
  unfold unlockStep
  simp only []
  by_cases far : s.port.config.unlockBound < c.natAbs
  · rw [if_pos far, if_pos far]
    exact if_congr (by omega) (changeState_counted (by decide) rfl rfl) rfl
  · rw [if_neg far, if_neg far]
    rfl

theorem holdoverStep_eq (s : State) (c : Int) {run : Nat} (counted : run =
      if 1 ≤ s.memberCount ∧ c.natAbs ≤ s.port.config.lockWindow then s.sync.relockRun + 1 else 0) :
    s.holdoverStep c =
      if 8 ≤ run then s.changeState .track .relocked
      else if 1023 ≤ s.sync.holdoverCount then s.changeState .acquire .holdoverExpired
      else { s with sync.relockRun := run, sync.holdoverCount := s.sync.holdoverCount + 1 } := by
  unfold holdoverStep
  simp only []
  rw [← counted]
  refine if_congr Iff.rfl (changeState_counted (by decide) rfl rfl) ?_
  exact if_congr (Nat.succ_le_succ_iff (a := 1023)) (changeState_counted (by decide) rfl rfl) rfl

/-! ## A result handled (R100) -/

section
variable {s : State} {c : Int} {action : Action}

theorem handleResult_merges (transmits : s.transmitting = true) (staying : s.sync.state ≠ .leaving)
    (merges : s.mergeCalls) : s.handleResult c action = { s.changeState .listen .merge with
      sync.alignSources := s.sync.foreign, sync.listenDeadline := some s.listenUntil, sync.foreign := 0 } := by
  have tested : (s.sync.state == .acquire || s.sync.state.agrees) = true := by
    revert transmits staying
    rw [transmitting]
    cases s.sync.state <;> simp [StationState.transmits, StationState.agrees]
  have still := changeState_still s .listen .merge
  have deadline : (s.changeState .listen .merge).deadlineFromNow = s.listenUntil := by
    simp only [deadlineFromNow, listenUntil, epochLen, own, straps, portStill_straps (still_portStill still),
      now_eq_of_timebase (still_timebase still)]
  rw [handleResult, if_pos (by rw [tested, (mergeCalled_iff s).2 merges]; rfl), merge, deadline]

theorem handleResult_runs (keeps : s.sync.state = .leaving ∨ ¬ s.mergeCalls) :
    s.handleResult c action = { s.advanceRuns c action with sync.foreign := 0 } := by
  have untested : ¬ ((s.sync.state == .acquire || s.sync.state.agrees) && s.mergeCalled) = true := by
    obtain leaving | apart := keeps
    · simp [leaving, StationState.agrees]
    · simp [mt (mergeCalled_iff s).1 apart]
  rw [handleResult, if_neg untested]

theorem handleResult_leaving (leaving : s.sync.state = .leaving) :
    s.handleResult c action = { s with sync.foreign := 0 } := by
  rw [handleResult_runs (.inl leaving), advanceRuns, leaving]

theorem handleResult_acquire (acquire : s.sync.state = .acquire) (apart : ¬ s.mergeCalls) :
    s.handleResult c action = { s.lockStep c action with sync.foreign := 0 } := by
  rw [handleResult_runs (.inr apart), advanceRuns, acquire]

theorem handleResult_track (track : s.sync.state = .track) (apart : ¬ s.mergeCalls) :
    s.handleResult c action = { s.unlockStep c with sync.foreign := 0 } := by
  rw [handleResult_runs (.inr apart), advanceRuns, track]

theorem handleResult_holdover (holdover : s.sync.state = .holdover) (apart : ¬ s.mergeCalls) :
    s.handleResult c action = { s.holdoverStep c with sync.foreign := 0 } := by
  rw [handleResult_runs (.inr apart), advanceRuns, holdover]

end

/-- The sync controller where the result has brought a state change. -/
theorem changed_sync {s t : State} {new : StationState} {cause : Cause} (joined : new ≠ .dormant)
    (changed : t = { s.changeState new cause with sync.foreign := 0 }) :
    t.sync = { s.sync.enter new cause with foreign := 0 } := by
  rw [changed]
  exact congrArg (fun y : Sync => { y with foreign := 0 }) (changeState_sync cause joined)

/-- A result that moves the station out of ACQUIRE has locked it (R101). -/
theorem lockStep_moves {s t : State} {c : Int} {action : Action}
    (handled : t = { s.lockStep c action with sync.foreign := 0 }) (moves : t.sync.state ≠ s.sync.state) :
    t = { s.changeState .track .locked with sync.foreign := 0 } := by
  rw [lockStep_eq] at handled
  split_ifs at handled
  · exact handled
  all_goals exact absurd (congrArg (·.sync.state) handled :) moves

/-- A result that moves the station out of TRACK has unlocked it (R102). -/
theorem unlockStep_moves {s t : State} {c : Int} (handled : t = { s.unlockStep c with sync.foreign := 0 })
    (moves : t.sync.state ≠ s.sync.state) :
    t = { s.changeState .holdover .unlocked with sync.foreign := 0 } := by
  rw [unlockStep_eq] at handled
  split_ifs at handled
  · exact handled
  all_goals exact absurd (congrArg (·.sync.state) handled :) moves

/-- A result that moves the station out of HOLDOVER has relocked it, or HOLDOVER has expired (R104). -/
theorem holdoverStep_moves {s t : State} {c : Int} (handled : t = { s.holdoverStep c with sync.foreign := 0 })
    (moves : t.sync.state ≠ s.sync.state) :
    (t.sync.state = .track ∧ t = { s.changeState .track .relocked with sync.foreign := 0 }) ∨
      (t.sync.state = .acquire ∧ t = { s.changeState .acquire .holdoverExpired with sync.foreign := 0 }) := by
  obtain ⟨run, counted⟩ : ∃ run, run =
    if 1 ≤ s.memberCount ∧ c.natAbs ≤ s.port.config.lockWindow then s.sync.relockRun + 1 else 0 := ⟨_, rfl⟩
  rw [holdoverStep_eq s c counted] at handled
  split_ifs at handled
  · exact .inl ⟨congrArg Sync.state (changed_sync (by decide) handled), handled⟩
  · exact .inr ⟨congrArg Sync.state (changed_sync (by decide) handled), handled⟩
  · exact absurd (congrArg (·.sync.state) handled :) moves

/-- A change that leaves the station state moves the sync controller alone. -/
theorem keepsOrEnters_kept {s t : State} (moved : s.keepsOrEnters t) (same : t.sync.state = s.sync.state) :
    t = { s with sync := t.sync } := by
  obtain ⟨y, -, rfl⟩ | ⟨new, cause, z, y, -, -, -, other, state, rfl⟩ := moved
  · rfl
  · exact absurd (state.symm.trans same) other

/-! ## What the correction has left (R69) -/

/-- An epoch close taken: the window instant settled, the set of windows heard emptied and every current lead gone. -/
def closeTaken (s : State) : State :=
  { s with
    link.seqMark := s.now
    link.heard := 0
    peers := s.peers.map (fun e => { e with currentLead := none }) }

/-- The state in which the result of a close is handled: the action handed to the timebase, flags and record written. -/
def closedBy (s : State) (d : Decision) : State :=
  ((s.closeTaken.applyAction d).recordFlags d.flags).writeLog
    (logRecord (s.now / epochLength s.straps - 1) s.sync.state d)

/-- Beside the schedule an action moves the timebase, and settles window instants in the link engine (R4, R34). -/
theorem applyAction_offSchedule (s : State) (d : Decision) : (s.applyAction d).offSchedule = ({ s with
    timebase := (s.applyAction d).timebase
    link.seqMark := (s.applyAction d).link.seqMark
    link.completeRun := (s.applyAction d).link.completeRun } : State).offSchedule := by
  unfold applyAction
  split
  · have off := stepTime_offSchedule s d.correction rfl
    have settled : ∀ b, s.steppedLink s.now b = { s.link with
        seqMark := (s.steppedLink s.now b).seqMark, completeRun := (s.steppedLink s.now b).completeRun } := by
      intro b
      unfold steppedLink
      split <;> rfl
    rw [offSchedule_timebase off, offSchedule_link off, off]
    dsimp only
    rw [← settled]
  · rfl
  · rfl

theorem closedBy_eq (s : State) (d : Decision) : s.closedBy d = { s with
    timebase := (s.closedBy d).timebase
    correction := (s.closedBy d).correction
    peers := s.peers.map (fun e => { e with currentLead := none })
    link.seqMark := (s.closedBy d).link.seqMark
    link.heard := 0
    link.completeRun := (s.closedBy d).link.completeRun
    schedule := (s.closedBy d).schedule
    capture := (s.closedBy d).capture
    port.alerts.overflow := (s.closedBy d).port.alerts.overflow
    port.alerts.correction := (s.closedBy d).port.alerts.correction } := by
  obtain ⟨a, action⟩ : ∃ a, a = s.closeTaken.applyAction d := ⟨_, rfl⟩
  obtain ⟨p, left⟩ : ∃ p, p = s.closedBy d := ⟨_, rfl⟩
  have recorded : p = { a with correction := p.correction, port.alerts.correction := p.port.alerts.correction } := by
    rw [left, closedBy, ← action, writeLog_recordFlags_eq]
  have timebase : p.timebase = a.timebase := (congrArg State.timebase recorded :)
  have link : p.link = a.link := (congrArg State.link recorded :)
  have off := applyAction_offSchedule s.closeTaken d
  rw [← action, ← timebase, ← link] at off
  rw [← left]
  refine eq_of_offSchedule ?_ ⟨rfl, rfl, rfl⟩
  have split : p.offSchedule = { a.offSchedule with
      correction := p.correction, port.alerts.correction := p.port.alerts.correction } := congrArg offSchedule recorded
  have cap0 : p.capture.cap0 = s.capture.cap0 :=
    (congrArg (·.capture.cap0) recorded :).trans (offSchedule_cap0 off :)
  have cap1 : p.capture.cap1 = s.capture.cap1 :=
    (congrArg (·.capture.cap1) recorded :).trans (offSchedule_cap1 off :)
  rw [split, off]
  unfold offSchedule
  dsimp only
  rw [cap0, cap1]
  rfl

section
variable {s : State} {d : Decision}

theorem closedBy_sync : (s.closedBy d).sync = s.sync := (congrArg State.sync (closedBy_eq s d) :)

theorem closedBy_config : (s.closedBy d).port.config = s.port.config :=
  (congrArg (·.port.config) (closedBy_eq s d) :)

theorem closedBy_members : (s.closedBy d).memberCount = s.memberCount := by
  rw [closedBy_eq, memberCount, List.countP_map]
  rfl

theorem closedBy_memberAt (m : Nat) : (s.closedBy d).memberAt m ↔ s.memberAt m := by
  have peers : (s.closedBy d).peers = s.peers.map (fun e => { e with currentLead := none }) :=
    (congrArg State.peers (closedBy_eq s d) :)
  unfold memberAt
  rw [peers, List.getElem?_map]
  cases s.peers[m]? <;> simp

theorem closedBy_mergeCalls : (s.closedBy d).mergeCalls ↔ s.mergeCalls := by
  have straps : (s.closedBy d).straps = s.straps := (congrArg (·.port.straps) (closedBy_eq s d) :)
  have members : (s.closedBy d).peers.countP (fun e => e.state == .member) =
      s.peers.countP (fun e => e.state == .member) := closedBy_members
  simp only [mergeCalls, closedBy_sync, closedBy_memberAt, straps, members]

/-- Without a step the close settles the window instant at T, and leaves the schedule. -/
theorem closedBy_plain (noStep : d.action ≠ .step) : (s.closedBy d).link.seqMark = s.now ∧
    (s.closedBy d).link.completeRun = s.link.completeRun ∧ (s.closedBy d).sameScheduleAs s := by
  unfold closedBy
  rw [writeLog_recordFlags_eq]
  unfold applyAction
  split
  · exact absurd ‹_› noStep
  · exact ⟨rfl, rfl, rfl, rfl, rfl⟩
  · exact ⟨rfl, rfl, rfl, rfl, rfl⟩

/-- At a step the schedule has taken the jump (R38; log 8). -/
theorem closedBy_step (step : d.action = .step) {b : Nat} (reaches : (b : Int) = s.now + d.correction)
    (fits : b < 2 ^ 64) : (s.closedBy d).sameScheduleAs (s.takeReached.jumpSchedule s.now b) := by
  obtain ⟨-, -, same⟩ := closeStep (s := s) (x := s.closeTaken) rfl (firesAlike_of rfl rfl rfl) reaches fits
  unfold closedBy
  rw [writeLog_recordFlags_eq, applyAction, step]
  exact same

theorem takeEpochClose_closedBy (stands : s.atEpochClose) (transmits : s.transmitting = true)
    (decides : d = decideCorrection s.port.config s.sync.state s.timebase.trim
      (s.peers.filterMap (fun e => if e.state = .member then e.currentLead else none))) :
    s.takeEpochClose = (s.closedBy d).handleResult d.correction d.action :=
  takeEpochClose_corrects stands transmits decides (x := s.closeTaken) rfl rfl

end

end State

/-- Settles O40: the result is handled in the state that the correction has left, and every case of the handling is an
equation for the state after it. -/
theorem correctionResultMovesTheState : Obligations.CorrectionResultMovesTheState := by
  intro s t d running stands transmits decides run
  obtain ⟨p, left⟩ : ∃ p, p = s.closedBy d := ⟨_, rfl⟩
  have result : t = p.handleResult d.correction d.action := by
    have row : exec .epochClose s = .next s.takeEpochClose :=
      congrArg Host.Outcome.next (if_pos (State.running_of_not_starting running))
    rw [row, State.takeEpochClose_closedBy stands transmits decides, ← left] at run
    exact (Host.Outcome.next.inj run).symm
  have sync : p.sync = s.sync := left ▸ State.closedBy_sync
  have config : p.port.config = s.port.config := left ▸ State.closedBy_config
  have members : p.memberCount = s.memberCount := left ▸ State.closedBy_members
  have apart : ¬ s.mergeCalls → ¬ p.mergeCalls := mt (left ▸ State.closedBy_mergeCalls).1
  have pTransmits : p.transmitting = true := by rw [State.transmitting, sync]; exact transmits
  have moved : p.keepsOrEnters t := result ▸ State.handleResult_keepsOrEnters pTransmits _ _
  obtain ⟨timebase, correction, port, beside, -⟩ := State.keepsOrEnters_effect moved
  obtain ⟨-, -, -, -, -, -, flag⟩ := beside
  have straps : t.straps = p.straps := (congrArg Port.straps port :)
  have deadline : t.listenUntil = p.listenUntil := by
    simp only [State.listenUntil, straps, State.now_eq_of_timebase timebase]
  have merged : s.sync.state ≠ .leaving → s.mergeCalls → t = { p.changeState .listen .merge with
      sync.alignSources := s.sync.foreign, sync.listenDeadline := some t.listenUntil, sync.foreign := 0 } := by
    intro staying merges
    rw [deadline, ← sync, result]
    exact State.handleResult_merges pTransmits (sync ▸ staying) (left ▸ State.closedBy_mergeCalls.2 merges)
  have acquired : s.sync.state = .acquire → ¬ s.mergeCalls →
      t = { p.lockStep d.correction d.action with sync.foreign := 0 } := fun acquire alone =>
    result.trans (State.handleResult_acquire (sync ▸ acquire) (apart alone))
  have tracked : s.sync.state = .track → ¬ s.mergeCalls →
      t = { p.unlockStep d.correction with sync.foreign := 0 } := fun track alone =>
    result.trans (State.handleResult_track (sync ▸ track) (apart alone))
  have held : s.sync.state = .holdover → ¬ s.mergeCalls →
      t = { p.holdoverStep d.correction with sync.foreign := 0 } := fun holdover alone =>
    result.trans (State.handleResult_holdover (sync ▸ holdover) (apart alone))
  refine ⟨fun staying merges => ?_, fun leaving => ?_, fun acquire alone => ?_, fun track alone => ?_,
    fun holdover alone run counted => ?_, p, ?_, fun noStep => left ▸ State.closedBy_plain noStep,
    fun step b reaches fits => left ▸ State.closedBy_step step reaches fits,
    fun same => State.keepsOrEnters_kept moved (same.trans (congrArg Sync.state sync.symm)), merged,
    fun alone changed => ?_⟩
  · have entered := merged staying merges
    obtain ⟨state, cause, run⟩ : (p.changeState .listen .merge).sync.state = .listen ∧
        (p.changeState .listen .merge).sync.lastCause = .merge ∧ (p.changeState .listen .merge).sync.lockRun = 0 := by
      rw [State.changeState_sync _ (by decide)]
      exact ⟨rfl, rfl, rfl⟩
    exact ⟨(congrArg (·.sync.state) entered :).trans state, (congrArg (·.sync.lastCause) entered :).trans cause,
      (congrArg (·.sync.alignSources) entered :), (congrArg (·.sync.listenDeadline) entered :),
      (congrArg (·.sync.lockRun) entered :).trans run⟩
  · rw [result, State.handleResult_leaving (sync ▸ leaving), ← sync]
  · have handled := acquired acquire alone
    rw [State.lockStep_eq, config, sync] at handled
    refine ⟨fun close noStep locks => ?_, fun close noStep early => ?_, fun far => ?_⟩
    · rw [if_pos ⟨close, noStep⟩, if_pos locks] at handled
      rw [State.changed_sync (by decide) handled]
      exact ⟨rfl, rfl, rfl⟩
    · rw [if_pos ⟨close, noStep⟩, if_neg (by omega)] at handled
      exact (congrArg State.sync handled :)
    · rw [if_neg fun near => far.elim (by omega) near.2] at handled
      exact (congrArg State.sync handled :)
  · have handled := tracked track alone
    rw [State.unlockStep_eq, config, sync] at handled
    refine ⟨fun far unlocks => ?_, fun far early => ?_, fun close => ?_⟩
    · rw [if_pos far, if_pos unlocks] at handled
      rw [State.changed_sync (by decide) handled]
      exact ⟨rfl, rfl, rfl⟩
    · rw [if_pos far, if_neg (by omega)] at handled
      exact (congrArg State.sync handled :)
    · rw [if_neg (by omega)] at handled
      exact (congrArg State.sync handled :)
  · have handled := held holdover alone
    have counted : run = if 1 ≤ p.memberCount ∧ d.correction.natAbs ≤ p.port.config.lockWindow then
        p.sync.relockRun + 1 else 0 := by rw [members, config, sync]; exact counted
    rw [State.holdoverStep_eq p d.correction counted, sync] at handled
    refine ⟨fun locks => ?_, fun short expires => ?_, fun short early => ?_⟩
    · rw [if_pos locks] at handled
      rw [State.changed_sync (by decide) handled]
      exact ⟨rfl, rfl⟩
    · rw [if_neg (by omega), if_pos expires] at handled
      rw [State.changed_sync (by decide) handled]
      exact ⟨rfl, rfl⟩
    · rw [if_neg (by omega), if_neg (by omega)] at handled
      exact (congrArg State.sync handled :)
  · rw [timebase, correction, flag, left]
    exact State.closedBy_eq s d
  · have moves : t.sync.state ≠ p.sync.state := sync ▸ changed
    refine ⟨fun acquire => State.lockStep_moves (acquired acquire alone) moves,
      fun track => State.unlockStep_moves (tracked track alone) moves, fun holdover toTrack => ?_,
      fun holdover elsewhere => ?_⟩
    · obtain ⟨-, entered⟩ | ⟨state, -⟩ := State.holdoverStep_moves (held holdover alone) moves
      · exact entered
      · rw [toTrack] at state
        cases state
    · obtain ⟨state, -⟩ | ⟨-, entered⟩ := State.holdoverStep_moves (held holdover alone) moves
      · exact absurd state elsewhere
      · exact entered

end Sys2Proof.Machine
end

section
/-!
What every operation keeps of the trigger schedule: the accounting of repetitions (R126), and the accord of PENDING
entries and the own proposal with the station state (R119, R145, R155, R157). Both are kept for the same reason, that an
operation replaces slots one by one, so one relation carries the two; it is a preorder, and an operation keeps the
schedule when the operations that make it up do.
-/
namespace Sys2Proof.Machine

/-! ## The lowest free slot (R118) -/

namespace State

theorem entry_eq_none {s : State} {h : Nat} : s.entry h = none ↔ ∀ e, ¬ s.holds h e := by
  simp only [Option.eq_none_iff_forall_ne_some, ne_eq, entry_eq_some]

theorem freeSlot_eq_some {s : State} {h : Nat} :
    s.freeSlot = some h ↔ h < 16 ∧ s.entry h = none ∧ ∀ j, j < h → s.entry j ≠ none := by
  rw [freeSlot, List.find?_range_eq_some, List.mem_range, Option.isNone_iff_eq_none]
  simp only [Bool.not_eq_true', Option.isNone_eq_false_iff, Option.isSome_iff_ne_none]
  tauto

end State

/-! ## What the two invariants say of one entry -/

/-- Every repetition of the entry is counted once, and at least one is still to come (R126). -/
def Entry.accounts (e : Entry) : Prop := e.fired + e.skipped + e.remaining = e.initialRepeats ∧ 1 ≤ e.remaining

theorem Entry.afterFire_some {epoch : Nat} {e e' : Entry} (stands : e.afterFire epoch = some e') :
    e'.state = e.state ∧ e'.deadline = e.deadline ∧ (e.accounts → e'.accounts) := by
  unfold Entry.afterFire at stands
  split at stands
  · cases stands
  · rename_i more
    obtain rfl := Option.some.inj stands
    simp only [Entry.counted] at more
    refine ⟨rfl, rfl, ?_⟩
    rintro ⟨sum, -⟩
    simp only [Entry.accounts, Entry.counted]
    omega

theorem Entry.afterLateFire_some {epoch b : Nat} {e e' : Entry} (stands : e.afterLateFire epoch b = some e') :
    e'.state = e.state ∧ e'.deadline = e.deadline ∧ (e.accounts → e'.accounts) := by
  unfold Entry.afterLateFire at stands
  simp only [] at stands
  split at stands
  · cases stands
  · rename_i more
    obtain rfl := Option.some.inj stands
    simp only [Entry.counted] at more
    refine ⟨rfl, rfl, ?_⟩
    rintro ⟨sum, -⟩
    simp only [Entry.accounts, Entry.counted]
    omega

/-- The set {TRACK, HOLDOVER} (R91). -/
theorem StationState.agrees_iff (st : StationState) : st.agrees = true ↔ st = .track ∨ st = .holdover := by
  cases st <;> simp [StationState.agrees]

namespace State

/-- A PENDING entry is SHARED with a deadline 2E before its target, in TRACK or HOLDOVER alone, and an ARMED one has no
deadline (R119, R155, R157). -/
def allows (s : State) (e : Entry) : Prop :=
  (e.state = .pending → (∃ name, e.kind = .shared name) ∧
    e.deadline = some (e.nextFire - 2 * epochLength s.straps) ∧
    (s.sync.state = .track ∨ s.sync.state = .holdover)) ∧
  (e.state = .armed → e.deadline = none)

/-- The entry is an own proposal: PENDING under the own number (R144, R145). -/
def ownPending (s : State) (e : Entry) : Prop :=
  e.state = .pending ∧ ∃ tag, e.kind = .shared ⟨ownNumber s.straps, tag⟩

theorem agreementHolds_iff (s : State) : s.agreementHolds ↔ s.schedule.slots.length = 16 ∧
    (∀ h e, s.holds h e → s.allows e) ∧
    ∀ h, s.schedule.ownProposal = some h → ∃ e, s.holds h e ∧ s.ownPending e := by
  unfold agreementHolds allows ownPending
  constructor
  · rintro ⟨size, pending, armed, own⟩
    refine ⟨size, fun h e held => ⟨pending h e held, armed h e held⟩, fun h proposal => ?_⟩
    obtain ⟨e, tag, held, state, kind⟩ := own h proposal
    exact ⟨e, held, state, tag, kind⟩
  · rintro ⟨size, entries, own⟩
    refine ⟨size, fun h e held => (entries h e held).1, fun h e held => (entries h e held).2, fun h proposal => ?_⟩
    obtain ⟨e, held, state, tag, kind⟩ := own h proposal
    exact ⟨e, tag, held, state, kind⟩

/-- An entry in a slot has the number of the slot below 16. -/
theorem agreementHolds.handle_lt {s : State} (agreement : s.agreementHolds) {h : Nat} {e : Entry} (held : s.holds h e) :
    h < 16 :=
  agreement.1 ▸ (List.getElem?_eq_some_iff.1 held).1

/-- The own proposal is no ARMED entry. -/
theorem agreementHolds.ne_own {s : State} (agreement : s.agreementHolds) {h k : Nat} {e : Entry} (held : s.holds h e)
    (armed : e.state = .armed) (own : s.schedule.ownProposal = some k) : k ≠ h := by
  rintro rfl
  obtain ⟨-, -, -, proposal⟩ := agreement
  obtain ⟨e', tag, held', pending, -⟩ := proposal k own
  obtain rfl : e' = e := by simpa [holds, held] using held'.symm
  rw [armed] at pending
  cases pending

/-! ## The relation -/

/-- From s to t the accounting and the agreement are kept. -/
structure KeepsSchedule (s t : State) : Prop where
  accounting : s.accountingHolds → t.accountingHolds
  agreement : s.agreementHolds → t.agreementHolds

/-- What the two invariants speak of. -/
def slotParts (s : State) : Straps × StationState × List (Option Entry) × Option Nat :=
  (s.port.straps, s.sync.state, s.schedule.slots, s.schedule.ownProposal)

namespace KeepsSchedule

theorem refl (s : State) : s.KeepsSchedule s := ⟨id, id⟩

theorem trans {s t u : State} (first : s.KeepsSchedule t) (second : t.KeepsSchedule u) : s.KeepsSchedule u :=
  ⟨second.accounting ∘ first.accounting, second.agreement ∘ first.agreement⟩

theorem of_parts {s t : State} (h : t.slotParts = s.slotParts) : s.KeepsSchedule t := by
  simp only [slotParts, Prod.mk.injEq] at h
  obtain ⟨straps, state, slots, own⟩ := h
  constructor
  · unfold accountingHolds holds
    rw [slots]
    exact id
  · unfold agreementHolds holds State.straps
    rw [straps, state, slots, own]
    exact id

theorem foldl {β : Type} {f : State → β → State} (turn : ∀ (s : State) (x : β), s.KeepsSchedule (f s x)) (l : List β)
    (s : State) : s.KeepsSchedule (l.foldl f s) :=
  foldl_invariant (fun u x hu => trans hu (turn u x)) l s (refl s)

theorem ite {s t u : State} {p : Prop} [Decidable p] (first : s.KeepsSchedule t) (second : s.KeepsSchedule u) :
    s.KeepsSchedule (if p then t else u) :=
  iteInduction (motive := s.KeepsSchedule) (fun _ => first) fun _ => second

/-- An event of the schedule that replaces the entry of one slot: the new entry is one that the invariants allow, and
the own proposal stands elsewhere or is that entry. -/
theorem of_slot {s t : State} {h : Nat} {x : Option Entry} (off : t.offSchedule = s.offSchedule)
    (slots : t.schedule.slots = s.schedule.slots.set h x)
    (accounts : s.accountingHolds → ∀ e, x = some e → e.accounts)
    (allowed : s.agreementHolds → ∀ e, x = some e → s.allows e)
    (own : s.agreementHolds → ∀ k, t.schedule.ownProposal = some k →
      (s.schedule.ownProposal = some k ∧ k ≠ h) ∨ (k = h ∧ h < 16 ∧ ∃ e, x = some e ∧ s.ownPending e)) :
    s.KeepsSchedule t := by
  have straps : t.port.straps = s.port.straps := offSchedule_straps off
  have sync : t.sync = s.sync := offSchedule_sync off
  have held : ∀ k e, t.holds k e → s.holds k e ∨ x = some e := by
    intro k e
    rw [holds, slots, List.getElem?_set]
    split_ifs
    · exact fun found => .inr (Option.some.inj found)
    · simp
    · exact .inl
  constructor
  · intro accounting k e found
    obtain stood | new := held k e found
    · exact accounting k e stood
    · exact accounts accounting e new
  · intro agreement
    have before := agreement
    rw [agreementHolds_iff] at before ⊢
    obtain ⟨size, entries, proposal⟩ := before
    have allows_eq : t.allows = s.allows := by unfold allows State.straps; rw [straps, sync]
    have ownPending_eq : t.ownPending = s.ownPending := by unfold ownPending State.straps; rw [straps]
    rw [allows_eq, ownPending_eq, slots, List.length_set]
    refine ⟨size, fun k e found => ?_, fun k proposed => ?_⟩
    · obtain stood | new := held k e found
      · exact entries k e stood
      · exact allowed agreement e new
    · obtain ⟨stood, other⟩ | ⟨rfl, inside, e, rfl, pending⟩ := own agreement k proposed
      · obtain ⟨e, found, pending⟩ := proposal k stood
        exact ⟨e, by rwa [holds, slots, List.getElem?_set_ne (Ne.symm other)], pending⟩
      · exact ⟨e, by rw [holds, slots, List.getElem?_set_self (size ▸ inside)], pending⟩

/-- An event of the schedule that frees a slot, the own proposal ending where it stood there. -/
theorem of_freed {s t : State} {h : Nat} (off : t.offSchedule = s.offSchedule)
    (slots : t.schedule.slots = s.schedule.slots.set h none)
    (own : s.agreementHolds → ∀ k, t.schedule.ownProposal = some k → s.schedule.ownProposal = some k ∧ k ≠ h) :
    s.KeepsSchedule t :=
  of_slot off slots (fun _ _ h => nomatch h) (fun _ _ h => nomatch h) fun agreement k proposed =>
    .inl (own agreement k proposed)

/-- The schedule of a start holds nothing (R139). -/
theorem of_start {s t : State} (started : t.schedule = Schedule.start) : s.KeepsSchedule t := by
  have none_held := start_holds_none started
  refine ⟨fun _ h e held => absurd held (none_held h e), fun _ => (agreementHolds_iff t).2
    ⟨by rw [started]; rfl, fun h e held => absurd held (none_held h e), fun h proposed => ?_⟩⟩
  rw [started] at proposed
  cases proposed

end KeepsSchedule

/-! ## Firing (R123, R126, R129, R130) -/

/-- A firing leaves its slot free, or an entry that is ARMED as before with its repetitions accounted for. -/
theorem fireAs_keepsSchedule {s : State} {h : Nat} {e : Entry} (held : s.holds h e) (armed : e.state = .armed)
    {after : Option Entry} (stands : ∀ e', after = some e' →
      e'.state = e.state ∧ e'.deadline = e.deadline ∧ (e.accounts → e'.accounts)) (late : Bool) (k : Nat) :
    s.KeepsSchedule (s.fireAs h e after late k) := by
  have schedule := fireAs_schedule s h e after late k
  refine .of_slot (h := h) (x := after) (fireAs_offSchedule s h e after late k) (by rw [schedule]; rfl)
    (fun accounting e' found => ?_) (fun agreement e' found => ?_) fun agreement j own => .inl ?_
  · obtain ⟨-, -, accounts⟩ := stands e' found
    exact accounts (accounting h e held)
  · obtain ⟨state, deadline, -⟩ := stands e' found
    obtain ⟨-, -, noDeadline, -⟩ := agreement
    rw [armed] at state
    exact ⟨fun pending => (nomatch state.symm.trans pending), fun _ => deadline.trans (noDeadline h e held armed)⟩
  · rw [schedule] at own
    exact ⟨own, agreement.ne_own held armed own⟩

theorem fireIfDue_keepsSchedule (s : State) (h : Nat) : s.KeepsSchedule (s.fireIfDue h) := by
  unfold fireIfDue fireOnTime
  split
  · rename_i e held
    split
    · rename_i due
      exact fireAs_keepsSchedule (entry_eq_some.1 held) due.1 (fun _ stands => Entry.afterFire_some stands) _ _
    · exact .refl s
  · exact .refl s

theorem takeFirings_keepsSchedule (s : State) : s.KeepsSchedule s.takeFirings := .foldl fireIfDue_keepsSchedule _ s

/-- The declined list is no part of either invariant. -/
theorem filterDeclined_keepsSchedule (s : State) (keep : Declined → Bool) :
    s.KeepsSchedule { s with schedule.declined := s.schedule.declined.filter keep } :=
  .of_parts rfl

theorem takeExpiries_keepsSchedule (s : State) : s.KeepsSchedule s.takeExpiries := filterDeclined_keepsSchedule s _

theorem takeReached_keepsSchedule (s : State) : s.KeepsSchedule s.takeReached :=
  (takeFirings_keepsSchedule s).trans (takeExpiries_keepsSchedule _)

theorem lateFireIfPassed_keepsSchedule (a b : Nat) (s : State) (h : Nat) :
    s.KeepsSchedule (lateFireIfPassed a b s h) := by
  unfold lateFireIfPassed fireLate
  split
  · rename_i e held
    split
    · rename_i passed
      exact fireAs_keepsSchedule (entry_eq_some.1 held) passed.1 (fun _ stands => Entry.afterLateFire_some stands) _ _
    · exact .refl s
  · exact .refl s

theorem jumpSchedule_keepsSchedule (s : State) (a b : Nat) : s.KeepsSchedule (s.jumpSchedule a b) :=
  .ite (.trans (.foldl (lateFireIfPassed_keepsSchedule a b) _ s) (filterDeclined_keepsSchedule _ _)) (.refl s)

/-! ## The agreement logic (R148 to R157) -/

theorem evaluateSlot_keepsSchedule (s : State) (h : Nat) : s.KeepsSchedule (s.evaluateSlot h) := by
  unfold evaluateSlot
  split
  · rename_i name e pending
    obtain ⟨held, -, -⟩ := pendingEntry_eq_some.1 pending
    refine .ite (.of_slot (h := h) (x := some { e with state := .armed, deadline := none })
      (arm_offSchedule s h name e) (by simp [arm])
      (fun accounting e' found => ?_) (fun _ e' found => ?_) fun _ k own => .inl ?_) (.refl s)
    · obtain rfl := Option.some.inj found
      exact accounting h e held
    · obtain rfl := Option.some.inj found
      exact ⟨nofun, fun _ => rfl⟩
    · rw [arm, post_schedule] at own
      exact (endProposal_ownProposal (s.setSlot h _) h k).1 own
  · exact .refl s

theorem evaluateArming_keepsSchedule (s : State) : s.KeepsSchedule s.evaluateArming :=
  .foldl evaluateSlot_keepsSchedule _ s

theorem abandon_keepsSchedule (s : State) (h : Nat) (name : Pair) (e : Entry) (r : AbandonReason) (m : StationSet) :
    s.KeepsSchedule (s.abandon h name e r m) := by
  refine .of_freed (h := h) (abandon_offSchedule s h name e r m) (by simp [abandon]) fun _ k own => ?_
  rw [abandon, post_schedule] at own
  exact (endProposal_ownProposal (s.setSlot h none) h k).1 own

theorem abandonPending_keepsSchedule (s : State) : s.KeepsSchedule s.abandonPending := by
  refine .foldl (fun u h => ?_) _ s
  unfold abandonSlot
  split
  · exact abandon_keepsSchedule _ _ _ _ _ _
  · exact .refl u

theorem deadlineIfDue_keepsSchedule (s : State) (h : Nat) : s.KeepsSchedule (s.deadlineIfDue h) := by
  unfold deadlineIfDue
  split
  · exact .ite (abandon_keepsSchedule _ _ _ _ _ _) (.refl s)
  · exact .refl s

theorem takeDeadlines_keepsSchedule (s : State) : s.KeepsSchedule s.takeDeadlines :=
  .foldl deadlineIfDue_keepsSchedule _ s


/-- A peer's offer that a station takes up in TRACK or HOLDOVER makes a PENDING entry with all its repetitions to come
(R148, R149). -/
theorem takeOffer_keepsSchedule {s : State} (p : Nat) {o : Offer} (repeats : 1 ≤ o.repeats) :
    s.KeepsSchedule (s.takeOffer p o) := by
  unfold takeOffer
  split
  · rename_i h free
    obtain ⟨-, empty, -⟩ := freeSlot_eq_some.1 free
    simp only []
    split
    · rename_i taken
      have agrees : s.sync.state.agrees = true := by simp only [Bool.and_eq_true] at taken; tauto
      refine .of_slot (h := h) (setSlot_offSchedule s h _) rfl (fun _ e made => ?_) (fun _ e made => ?_)
        fun agreement k own => .inl ⟨own, ?_⟩
      · obtain rfl := Option.some.inj made
        exact ⟨by simp [newShared], repeats⟩
      · obtain rfl := Option.some.inj made
        exact ⟨fun _ => ⟨⟨_, rfl⟩, rfl, (StationState.agrees_iff _).1 agrees⟩, nofun⟩
      · rintro rfl
        obtain ⟨-, -, -, proposal⟩ := agreement
        obtain ⟨e, tag, held, -⟩ := proposal k own
        exact entry_eq_none.1 empty e held
    · exact .refl s
  · exact .refl s

theorem beaconNotice_keepsSchedule {s : State} (p : Nat) {offer : Option Offer}
    (repeats : ∀ o, offer = some o → 1 ≤ o.repeats) : s.KeepsSchedule (s.beaconNotice p offer) := by
  unfold beaconNotice
  refine .trans ?_ (evaluateArming_keepsSchedule _)
  split
  · exact takeOffer_keepsSchedule p (repeats _ rfl)
  · exact .refl s

/-! ## The trigger commands (R121, R133, R142) -/

/-- Parameters in their ranges ask for a repetition at least (R121, R142). -/
theorem repeats_pos {e : Nat} {p : TriggerParams} {lines : LineSet} (ranges : triggerRangesHold e p lines = true) :
    1 ≤ p.repeats.toNat := by
  simp only [triggerRangesHold, Bool.and_eq_true, decide_eq_true_eq] at ranges
  tauto

/-- SCHEDULE makes a LOCAL entry, ARMED, in a slot that held none and so no own proposal (R119). -/
theorem scheduleAnswer_keepsSchedule (s : State) (p : TriggerParams) (options : Byte) :
    s.KeepsSchedule (s.scheduleAnswer p options).after := by
  unfold scheduleAnswer
  split
  · rename_i lines report _ _
    split_ifs with halted ranges past
    case neg =>
      split
      · exact .refl s
      · rename_i h free
        obtain ⟨-, empty, -⟩ := freeSlot_eq_some.1 free
        refine .of_slot (h := h) (setSlot_offSchedule s h _) rfl (fun _ e made => ?_) (fun _ e made => ?_)
          fun agreement k own => .inl ⟨own, ?_⟩
        · obtain rfl := Option.some.inj made
          exact ⟨by simp [newLocal], repeats_pos (by simpa using ranges)⟩
        · obtain rfl := Option.some.inj made
          exact ⟨nofun, fun _ => rfl⟩
        · rintro rfl
          obtain ⟨-, -, -, proposal⟩ := agreement
          obtain ⟨e, tag, held, -⟩ := proposal k own
          exact entry_eq_none.1 empty e held
    all_goals exact .refl s
  all_goals exact .refl s

/-- PROPOSE makes the own proposal, PENDING in TRACK (R144, R145). -/
theorem makeProposal_keepsSchedule {s : State} {h : Nat} {p : TriggerParams} {lines : LineSet} (inRange : h < 16)
    (track : s.sync.state = .track) (repeats : 1 ≤ p.repeats.toNat) : s.KeepsSchedule (s.makeProposal h p lines) := by
  unfold makeProposal
  simp only []
  refine .trans ?_ (evaluateSlot_keepsSchedule _ h)
  refine .of_slot (h := h) (x := some (s.newShared ⟨s.own, s.drawTag⟩ (s.targetTime p) p.width.toNat lines
    p.period.toNat p.repeats.toNat)) rfl rfl (fun _ e made => ?_) (fun _ e made => ?_) fun _ k own => .inr ?_
  · obtain rfl := Option.some.inj made
    exact ⟨by simp [newShared], repeats⟩
  · obtain rfl := Option.some.inj made
    exact ⟨fun _ => ⟨⟨_, rfl⟩, rfl, .inl track⟩, nofun⟩
  · exact ⟨(Option.some.inj own).symm, inRange, _, rfl, rfl, _, rfl⟩

theorem proposeAnswer_keepsSchedule (s : State) (p : TriggerParams) : s.KeepsSchedule (s.proposeAnswer p).after := by
  unfold proposeAnswer
  split
  · exact .refl s
  · split
    · exact .refl s
    · rename_i track
      split
      · exact .refl s
      · split
        · exact .refl s
        · rename_i h free
          obtain ⟨inRange, -, -⟩ := freeSlot_eq_some.1 free
          split
          · exact .refl s
          · split
            · exact .refl s
            · split
              · exact .refl s
              · rename_i ranges
                exact makeProposal_keepsSchedule inRange (by simpa using track) (repeats_pos (by simpa using ranges))

/-- The own proposal ends with a SHARED entry that is cancelled, and stands in no LOCAL one's slot (R145). -/
theorem cancelEntry_keepsSchedule {s : State} {h : Nat} {e : Entry} (held : s.holds h e) :
    s.KeepsSchedule (s.cancelEntry h e) := by
  have declining : ∀ (u : State) (name : Pair), (u.declineCancelled name e).schedule.slots = u.schedule.slots ∧
      (u.declineCancelled name e).schedule.ownProposal = u.schedule.ownProposal := by
    intro u name
    unfold declineCancelled
    simp only []
    split <;> exact ⟨rfl, rfl⟩
  have off := cancelEntry_offSchedule s h e
  unfold cancelEntry at off ⊢
  simp only [] at off ⊢
  split at off
  · rename_i kind
    refine .of_freed (h := h) off rfl fun agreement k own => ⟨own, ?_⟩
    rintro rfl
    obtain ⟨-, -, -, proposal⟩ := agreement
    obtain ⟨e', tag, held', -, shared⟩ := proposal k own
    obtain rfl : e' = e := by simpa [holds, held] using held'.symm
    rw [kind] at shared
    cases shared
  · rename_i name kind
    obtain ⟨slots, proposal⟩ := declining ((s.setSlot h none).endProposal h) name
    refine .of_freed (h := h) off (by rw [post_schedule, slots]; simp) fun _ k own => ?_
    rw [post_schedule, proposal] at own
    exact (endProposal_ownProposal (s.setSlot h none) h k).1 own

theorem cancelAnswer_keepsSchedule (s : State) (handle : Byte) : s.KeepsSchedule (s.cancelAnswer handle).after := by
  unfold cancelAnswer
  split
  · exact .refl s
  · split
    · exact cancelEntry_keepsSchedule (entry_eq_some.1 ‹_›)
    · exact .refl s

/-! ## State changes and membership changes (R91, R103) -/

/-- Where a state change leads out of TRACK and HOLDOVER no PENDING entry is left, and so no own proposal (R157). -/
theorem leftFor_not_pending {s : State} {new : StationState} (agreement : s.agreementHolds)
    (outside : new.agrees = false) {h : Nat} {e : Entry} (held : (s.leftFor new).holds h e) : e.state ≠ .pending := by
  intro pending
  cases agrees : s.sync.state.agrees with
  | false =>
    rw [leftFor_stays (.inl agrees)] at held
    obtain ⟨-, entries, -⟩ := agreement
    obtain ⟨-, -, inside⟩ := entries h e held pending
    rw [(StationState.agrees_iff _).2 inside] at agrees
    cases agrees
  | true =>
    rw [leftFor_leaves agrees outside] at held
    have inRange := ((abandonPending_keepsSchedule s).agreement agreement).handle_lt held
    obtain ⟨slots, -, -⟩ := abandonPending_effect s
    have slot := slots h inRange
    by_cases isPending : (s.pendingEntry h).isSome
    · rw [if_pos isPending, held] at slot
      cases slot
    · rw [if_neg isPending, held] at slot
      obtain ⟨-, entries, -⟩ := agreement
      obtain ⟨⟨name, shared⟩, -⟩ := entries h e slot.symm pending
      rw [pendingEntry_eq_some.2 ⟨slot.symm, shared, pending⟩] at isPending
      exact isPending rfl

theorem enter_keepsSchedule (s : State) (new : StationState) (cause : Cause) : s.KeepsSchedule (s.enter new cause) := by
  have left : s.KeepsSchedule (s.leftFor new) := .ite (abandonPending_keepsSchedule s) (.refl s)
  rw [enter_eq cause rfl]
  refine ⟨left.accounting, fun agreement => ?_⟩
  have stood := left.agreement agreement
  obtain ⟨size, pendings, armed, own⟩ := stood
  refine ⟨size, fun h e held pending => ?_, armed, own⟩
  obtain ⟨shared, deadline, -⟩ := pendings h e held pending
  refine ⟨shared, deadline, (StationState.agrees_iff new).1 ?_⟩
  by_contra outside
  exact leftFor_not_pending agreement (by simpa using outside) held pending

theorem acceptJoin_keepsSchedule (s : State) : s.KeepsSchedule s.acceptJoin :=
  have frozen : s.KeepsSchedule { s with port.frozen := true, sync.holdLeft := false, sync.alignSources := 0 } :=
    .of_parts rfl
  (frozen.trans (enter_keepsSchedule _ .listen .joined)).trans (.of_parts rfl)

theorem joinUnasked_keepsSchedule (s : State) : s.KeepsSchedule s.joinUnasked := by
  unfold joinUnasked
  split
  · exact acceptJoin_keepsSchedule s
  · exact .refl s

theorem changeState_keepsSchedule (s : State) (new : StationState) (cause : Cause) :
    s.KeepsSchedule (s.changeState new cause) :=
  have entered := enter_keepsSchedule s new cause
  .ite (entered.trans (joinUnasked_keepsSchedule _)) entered

theorem isolationCheck_keepsSchedule (s : State) (old : PeerState) : s.KeepsSchedule (s.isolationCheck old) :=
  .ite (changeState_keepsSchedule _ _ _) (.refl s)

theorem updatePeer_keepsSchedule (s : State) (p : Nat) (old new : Peer) :
    s.KeepsSchedule (s.updatePeer p old new) := by
  have replaced : s.KeepsSchedule (s.setPeer p new) := .of_parts rfl
  have raised : s.KeepsSchedule (s.setPeer p new).raiseMembership := .of_parts rfl
  exact .ite replaced ((raised.trans (evaluateArming_keepsSchedule _)).trans (isolationCheck_keepsSchedule _ _))

theorem badFrame_keepsSchedule (s : State) (p : Nat) : s.KeepsSchedule (s.badFrame p) := by
  unfold badFrame
  split
  · exact updatePeer_keepsSchedule _ _ _ _
  · exact .refl s

theorem missedWindow_keepsSchedule (s : State) (p : Nat) : s.KeepsSchedule (s.missedWindow p) := by
  unfold missedWindow
  split
  · exact updatePeer_keepsSchedule _ _ _ _
  · exact .refl s

/-- The offer that an arrival hands on is the one its beacon carries, its epoch resolved (R51, R56). -/
theorem arrival_keepsSchedule (s : State) (p : Nat) (lead : Int) {b : Beacon}
    (repeats : ∀ o, b.offer = some o → 1 ≤ o.repeats) : s.KeepsSchedule (s.arrival p lead b) := by
  cases entry : s.peers[p]? with
  | none =>
    have unchanged : s.arrival p lead b = s := by simp [arrival, peer, entry]
    rw [unchanged]
    exact .refl s
  | some e =>
    by_cases self : e.state = .self
    · have unchanged : s.arrival p lead b = s := by simp [arrival, peer, entry, self]
      rw [unchanged]
      exact .refl s
    by_cases leaving : b.state = .leaving
    · rw [arrival_leaving entry self leaving]
      exact updatePeer_keepsSchedule _ _ _ _
    · rw [arrival_eq entry self leaving rfl]
      obtain ⟨-, -, -, -, -, -, offer, -⟩ := Peer.afterArrival_arrivesAs self s.port.config b lead s.windowEpoch
        (s.viewTest e b)
      have arrived : s.KeepsSchedule (s.arrived p e
        (e.afterArrival s.port.config b lead s.windowEpoch (s.viewTest e b))) := .of_parts rfl
      refine .trans (arrived.trans (beaconNotice_keepsSchedule p fun o handed => ?_)) (isolationCheck_keepsSchedule _ _)
      rw [offer] at handed
      obtain ⟨sent, carried, rfl⟩ := Option.map_eq_some_iff.1 handed
      exact repeats sent carried

end State
end Sys2Proof.Machine
end

section
/-!
The schedule's accounting and agreement kept by frames, own beacons, corrections, the instants, the commands and the
starts, and so by every row and every step (R119, R126, R145, R155, R157).
-/
namespace Sys2Proof.Machine

/-- A valid beacon's offer asks for a repetition at least (R12, R14). -/
theorem validBeacon_repeats {straps : Straps} {bits : List Bool} {b : Beacon} (valid : validBeacon straps bits = some b)
    {o : Offer} (offer : b.offer = some o) : 1 ≤ o.repeats := by
  obtain ⟨-, fields⟩ := Option.filter_eq_some_iff.1 valid
  simp only [beaconValid, offer, offerValid, Bool.and_eq_true, decide_eq_true_eq] at fields
  tauto

/-- A good beacon is a valid one (R15). -/
theorem classify_good_valid {straps : Straps} {n : Nat} {mark : Int} {bits : List Bool} {inError : Bool} {b : Beacon}
    (good : classify straps n mark bits inError = .good b) : validBeacon straps bits = some b := by
  unfold classify at good
  simp only [] at good
  split at good
  · cases good
  · split at good
    · split at good <;> cases good
    · rename_i valid
      split at good
      · cases good
        split_ifs at valid
        exact valid
      · cases good

namespace State

/-! ## Frames and own beacons (R15 to R19, R23, R24) -/

theorem judgeFrame_keepsSchedule (s : State) (mark : Int) (bits : List Bool) (inError : Bool) :
    s.KeepsSchedule (s.judgeFrame mark bits inError) := by
  unfold judgeFrame
  split
  · exact changeState_keepsSchedule _ _ _
  · exact .ite (.refl s) (badFrame_keepsSchedule _ _)
  · exact .refl s
  · exact .ite (.refl s) (.of_parts rfl)
  · rename_i b good
    have heard : s.KeepsSchedule { s with link.heard := addTo s.link.heard b.sender } := .of_parts rfl
    exact .ite (badFrame_keepsSchedule _ _)
      (heard.trans (arrival_keepsSchedule _ _ _ fun _ => validBeacon_repeats (classify_good_valid good)))

theorem alignTime_keepsSchedule (s : State) (b : Nat) : s.KeepsSchedule (s.alignTime b) := by
  have moved : ∀ (u : State) (time : Timebase) (l : Link), u.KeepsSchedule { u with timebase := time, link := l } :=
    fun _ _ _ => .of_parts rfl
  unfold alignTime
  exact ((takeReached_keepsSchedule s).trans (moved _ _ _)).trans (jumpSchedule_keepsSchedule _ _ _)

theorem listenFrame_keepsSchedule (s : State) (mark : Int) (bits : List Bool) (inError : Bool) :
    s.KeepsSchedule (s.listenFrame mark bits inError) := by
  refine .ite (.refl s) (.ite (changeState_keepsSchedule _ _ _) ?_)
  split
  · exact .ite (((alignTime_keepsSchedule s _).trans (changeState_keepsSchedule _ _ _)).trans
      (judgeFrame_keepsSchedule _ _ _ _)) (.refl s)
  · exact .refl s

theorem endFrame_keepsSchedule (s : State) (bits : List Bool) (inError : Bool) (wait : Nat) :
    s.KeepsSchedule (s.endFrame bits inError wait) := by
  unfold endFrame
  split
  · exact .refl s
  · have ended : s.KeepsSchedule (s.frameEnded wait) := .of_parts rfl
    simp only []
    split
    case h_5 => exact ended.trans (listenFrame_keepsSchedule _ _ _ _)
    case h_6 | h_7 => exact ended
    all_goals exact ended.trans (judgeFrame_keepsSchedule _ _ _ _)

theorem beaconEnded_keepsSchedule (s : State) (b : OwnBeacon) : s.KeepsSchedule (s.beaconEnded b) :=
  .ite (changeState_keepsSchedule _ _ _) (.refl s)

theorem sentWhole_keepsSchedule (s : State) (b : OwnBeacon) : s.KeepsSchedule (s.sentWhole b) :=
  have sent : s.KeepsSchedule { s with
    link.beacon := none, link.overdriveRun := 0, link.completeRun := min 255 (s.link.completeRun + 1) } := .of_parts rfl
  sent.trans (beaconEnded_keepsSchedule _ b)

theorem cutByOverdrive_keepsSchedule (s : State) (b : OwnBeacon) : s.KeepsSchedule (s.cutByOverdrive b) :=
  have cut : s.KeepsSchedule { s with
    link.beacon := none, link.overdriveRun := min 3 (s.link.overdriveRun + 1), link.completeRun := 0 } := .of_parts rfl
  .ite (cut.trans (changeState_keepsSchedule _ _ _)) (cut.trans (beaconEnded_keepsSchedule _ b))

/-! ## Corrections (R69, R100) -/

theorem stepTime_keepsSchedule (s : State) (c : Int) : s.KeepsSchedule (s.stepTime c) := by
  have moved : ∀ (u : State) (time : Timebase) (l : Link), u.KeepsSchedule { u with timebase := time, link := l } :=
    fun _ _ _ => .of_parts rfl
  rw [stepTime_eq s c rfl]
  exact ((takeReached_keepsSchedule s).trans (moved _ _ _)).trans (jumpSchedule_keepsSchedule _ _ _)

theorem applyAction_keepsSchedule (s : State) (d : Decision) : s.KeepsSchedule (s.applyAction d) := by
  unfold applyAction
  split
  · exact stepTime_keepsSchedule s _
  · exact .of_parts rfl
  · exact .refl s

theorem handleResult_keepsSchedule {s : State} (transmits : s.sync.state.transmits = true) (c : Int) (action : Action) :
    s.KeepsSchedule (s.handleResult c action) := by
  obtain ⟨y, state, result⟩ | ⟨new, cause, z, y, before, -, -, -, state, result⟩ :=
    handleResult_keepsOrEnters transmits c action
  · rw [result]
    exact .of_parts (by simp only [slotParts, state])
  · rw [result]
    have counted : s.KeepsSchedule { s with sync := z } := .of_parts (by simp only [slotParts, before])
    refine (counted.trans (enter_keepsSchedule _ new cause)).trans (.of_parts ?_)
    simp only [slotParts, state, enter_sync, Sync.enter]

theorem correct_keepsSchedule {s : State} (transmits : s.sync.state.transmits = true) : s.KeepsSchedule s.correct := by
  have cleared : s.KeepsSchedule s.clearLeads := .of_parts rfl
  have recorded : ∀ (u : State) (f : CorrFlags) (r : LogRecord), u.KeepsSchedule ((u.recordFlags f).writeLog r) := by
    intro u f r
    rw [writeLog_recordFlags_eq]
    exact .of_parts rfl
  unfold correct
  refine .trans ((cleared.trans (applyAction_keepsSchedule _ _)).trans (recorded _ _ _))
    (handleResult_keepsSchedule ?_ _ _)
  rw [recorded_sync]
  exact transmits

/-! ## Instants, and the running of T -/

theorem takeOwnSend_keepsSchedule (s : State) : s.KeepsSchedule s.takeOwnSend :=
  .ite (.ite (.of_parts rfl) (.of_parts rfl)) (.refl s)

theorem takeWindowClose_keepsSchedule (s : State) : s.KeepsSchedule s.takeWindowClose := by
  have marked : s.KeepsSchedule s.markTaken := .of_parts rfl
  unfold takeWindowClose
  split
  · exact .ite (marked.trans (missedWindow_keepsSchedule _ _)) marked
  all_goals exact .refl s

theorem takeEpochClose_keepsSchedule (s : State) : s.KeepsSchedule s.takeEpochClose := by
  have emptied : s.KeepsSchedule { s.markTaken with link.heard := 0 } := .of_parts rfl
  unfold takeEpochClose
  simp only []
  split
  · split
    · exact emptied.trans (correct_keepsSchedule ‹_›)
    · exact emptied
  · exact .refl s

theorem takeListenDeadline_keepsSchedule (s : State) : s.KeepsSchedule s.takeListenDeadline :=
  .ite (changeState_keepsSchedule _ _ _) (.refl s)

theorem takePulseEnds_keepsSchedule (s : State) : s.KeepsSchedule s.takePulseEnds := .of_parts rfl

theorem takeSlewPoint_keepsSchedule (s : State) : s.KeepsSchedule s.takeSlewPoint :=
  .ite (.ite (.ite (.of_parts rfl) (.of_parts rfl)) (.of_parts rfl)) (.refl s)

theorem settleStanding_keepsSchedule (s : State) : s.KeepsSchedule s.settleStanding :=
  have abandoned := (takeFirings_keepsSchedule s).trans (takeDeadlines_keepsSchedule _)
  have founded := (abandoned.trans (takeExpiries_keepsSchedule _)).trans (takeListenDeadline_keepsSchedule _)
  have judged := (founded.trans (takeOwnSend_keepsSchedule _)).trans (takeWindowClose_keepsSchedule _)
  (judged.trans (takeEpochClose_keepsSchedule _)).trans (takePulseEnds_keepsSchedule _)

theorem takeSlewRow_keepsSchedule (s : State) : s.KeepsSchedule s.takeSlewRow :=
  .ite ((settleStanding_keepsSchedule s).trans (takeSlewPoint_keepsSchedule _)) (takeSlewPoint_keepsSchedule s)

theorem settle_keepsSchedule (s : State) : s.KeepsSchedule s.settle :=
  (settleStanding_keepsSchedule s).trans (takeSlewRow_keepsSchedule _)

theorem settleAll_keepsSchedule (fuel : Nat) (s : State) : s.KeepsSchedule (settleAll fuel s) := by
  induction fuel generalizing s with
  | zero => exact .refl s
  | succ fuel ih => exact .ite ((settle_keepsSchedule s).trans (ih _)) (.refl s)

theorem beginPeriod_keepsSchedule (s : State) : s.KeepsSchedule s.beginPeriod :=
  have begun : ∀ (u : State) (left : Nat), u.KeepsSchedule { u with timebase.periodLeft := left } :=
    fun _ _ => .of_parts rfl
  .ite ((settleAll_keepsSchedule 4 s).trans (begun _ _)) (.refl s)

theorem runPeriod_keepsSchedule (fuel : Nat) (stop : Option Nat) (s : State) :
    s.KeepsSchedule (runPeriod fuel stop s) := by
  induction fuel generalizing stop s with
  | zero => exact .refl s
  | succ fuel ih =>
    have ran : ∀ d, s.KeepsSchedule (s.runNs d) := fun _ => .of_parts rfl
    have settled := (settle_keepsSchedule s).trans (ih stop s.settle)
    exact .ite (.refl s) (.ite settled (.ite (.of_parts rfl) ((ran _).trans (ih _ _))))

/-! ## Transactions and their answers -/

theorem transaction_keepsSchedule {s : State} {take : State → State} (taken : s.KeepsSchedule (take s)) :
    s.KeepsSchedule (s.transaction take) :=
  .ite (.refl s) (.ite (.of_parts rfl) taken)

theorem command_keepsSchedule {s : State} (code : Byte) {act : State → Answer}
    (acted : s.KeepsSchedule (act s).after) : s.KeepsSchedule (s.command code act) :=
  have answered : (act s).after.KeepsSchedule (s.respond code (act s)) := .of_parts rfl
  transaction_keepsSchedule (acted.trans answered)

theorem popAnswer_keepsSchedule (s : State) : s.KeepsSchedule s.popAnswer.after := by
  unfold popAnswer
  split
  · exact .of_parts rfl
  · exact .refl s

theorem configureAnswer_keepsSchedule (s : State) (ident : Byte) (value : Nat) :
    s.KeepsSchedule (s.configureAnswer ident value).after := by
  unfold configureAnswer
  split
  · exact .refl s
  · split_ifs
    case neg => exact .of_parts rfl
    all_goals exact .refl s

theorem maskAnswer_keepsSchedule (s : State) (mask enables : Byte) :
    s.KeepsSchedule (s.maskAnswer mask enables).after := by
  unfold maskAnswer
  split
  · exact .of_parts rfl
  all_goals exact .refl s

theorem clearAnswer_keepsSchedule (s : State) (alertFlags corrFlags : Byte) :
    s.KeepsSchedule (s.clearAnswer alertFlags corrFlags).after := by
  unfold clearAnswer
  split
  · exact .of_parts rfl
  all_goals exact .refl s

theorem joinAnswer_keepsSchedule (s : State) : s.KeepsSchedule s.joinAnswer.after := by
  unfold joinAnswer
  split
  · exact .refl s
  · exact acceptJoin_keepsSchedule s

theorem leaveSecurely_keepsSchedule (s : State) (cause : Cause) : s.KeepsSchedule (s.leaveSecurely cause) := by
  unfold leaveSecurely
  split
  case h_1 | h_2 | h_3 | h_4 => exact changeState_keepsSchedule _ _ _
  all_goals exact .refl s

theorem leaveFast_keepsSchedule (s : State) (cause : Cause) : s.KeepsSchedule (s.leaveFast cause) := by
  unfold leaveFast
  split
  case h_6 | h_7 => exact .refl s
  all_goals exact changeState_keepsSchedule _ _ _

/-- The hold-left marker is no part of either invariant. -/
theorem marker_keepsSchedule (s : State) (marker : Bool) : s.KeepsSchedule { s with sync.holdLeft := marker } :=
  .of_parts rfl

theorem leaveSecureAnswer_keepsSchedule (s : State) (mode : Byte) :
    s.KeepsSchedule (s.leaveSecureAnswer mode).after := by
  unfold leaveSecureAnswer
  split_ifs
  · exact .refl s
  · exact .refl s
  · exact (marker_keepsSchedule s false).trans (leaveSecurely_keepsSchedule _ _)

theorem leaveFastAnswer_keepsSchedule (s : State) : s.KeepsSchedule s.leaveFastAnswer.after := by
  unfold leaveFastAnswer
  split
  · exact .refl s
  · exact (marker_keepsSchedule s false).trans (leaveFast_keepsSchedule _ _)

theorem releaseAnswer_keepsSchedule (s : State) (station : Nat) : s.KeepsSchedule (s.releaseAnswer station).after := by
  unfold releaseAnswer
  split
  · exact .refl s
  · split
    · exact updatePeer_keepsSchedule _ _ _ _
    · exact .refl s

/-! ## Pins and starts -/

theorem holdAsserted_keepsSchedule (s : State) : s.KeepsSchedule s.holdAsserted := by
  have marked := marker_keepsSchedule s true
  unfold holdAsserted
  split
  · exact .refl s
  · split
    case h_5 | h_6 | h_7 => exact .refl s
    all_goals exact marked.trans (leaveSecurely_keepsSchedule _ _)
  · split
    case h_6 | h_7 => exact .refl s
    case h_5 => exact leaveFast_keepsSchedule _ _
    all_goals exact marked.trans (leaveFast_keepsSchedule _ _)

theorem captureEdge_keepsSchedule (s : State) (input : Fin 2) : s.KeepsSchedule (s.captureEdge input) := by
  have set : ∀ c, s.KeepsSchedule (s.setCapture input c) := fun c => .ite (.of_parts rfl) (.of_parts rfl)
  have posted : ∀ (u : State) (r : EventRecord), u.KeepsSchedule (u.post r) := by
    intro u r
    obtain ⟨-, posted⟩ | ⟨-, posted⟩ := u.post_cases r
    all_goals
      rw [posted]
      exact .of_parts rfl
  unfold captureEdge
  exact .ite ((set _).trans (posted _ _)) (set _)

theorem finishStart_keepsSchedule (s : State) (cause : StartCause) (pins : Pins) (csnLow : Bool) :
    s.KeepsSchedule (s.finishStart cause pins csnLow) :=
  have started : s.KeepsSchedule (s.startValues cause pins csnLow) := .of_start rfl
  started.trans (.ite (changeState_keepsSchedule _ _ _) (.ite (joinUnasked_keepsSchedule _) (.refl _)))

/-- What a row does only while no start is in progress (R196). -/
theorem running_keepsSchedule {s u : State} (acted : s.KeepsSchedule u) :
    s.KeepsSchedule (if s.running then u else s) :=
  .ite acted (.refl s)

end State

/-! ## Every row -/

/-- Every row keeps the accounting and the agreement. -/
theorem exec_keepsSchedule (c : Instr) {s t : State} (run : exec c s = .next t) : s.KeepsSchedule t := by
  cases c with
  | readStatus | readConfig | readTime | readEntry | readSchedule | readPeer | readLog | unknownCommand =>
    cases run; exact State.command_keepsSchedule _ (.refl s)
  | popEvent => cases run; exact State.command_keepsSchedule _ (State.popAnswer_keepsSchedule s)
  | configure => cases run; exact State.command_keepsSchedule _ (State.configureAnswer_keepsSchedule s _ _)
  | setAlertMask => cases run; exact State.command_keepsSchedule _ (State.maskAnswer_keepsSchedule s _ _)
  | clear => cases run; exact State.command_keepsSchedule _ (State.clearAnswer_keepsSchedule s _ _)
  | join => cases run; exact State.command_keepsSchedule _ (State.joinAnswer_keepsSchedule s)
  | leaveSecure => cases run; exact State.command_keepsSchedule _ (State.leaveSecureAnswer_keepsSchedule s _)
  | leaveFast => cases run; exact State.command_keepsSchedule _ (State.leaveFastAnswer_keepsSchedule s)
  | schedule => cases run; exact State.command_keepsSchedule _ (State.scheduleAnswer_keepsSchedule s _ _)
  | propose => cases run; exact State.command_keepsSchedule _ (State.proposeAnswer_keepsSchedule s _)
  | cancel => cases run; exact State.command_keepsSchedule _ (State.cancelAnswer_keepsSchedule s _)
  | release => cases run; exact State.command_keepsSchedule _ (State.releaseAnswer_keepsSchedule s _)
  | restart pins =>
    cases run
    exact State.transaction_keepsSchedule
      ((State.finishStart_keepsSchedule s .command pins false).trans (.of_parts rfl))
  | response | transactionDiscarded => cases run; exact State.transaction_keepsSchedule (.of_parts rfl)
  | powerOn | resetnFall => cases run; exact .of_start rfl
  | startEnd pins csnLow =>
    cases run
    split
    · exact State.finishStart_keepsSchedule s _ pins csnLow
    · exact .refl s
  | holdAssertion =>
    cases run
    have raised : s.KeepsSchedule { s with port.holdLevel := true } := .of_parts rfl
    exact .ite (raised.trans (State.holdAsserted_keepsSchedule _)) (.refl s)
  | holdRelease =>
    cases run
    have lowered : s.KeepsSchedule { s with port.holdLevel := false } := .of_parts rfl
    exact .ite (lowered.trans (.ite (State.joinUnasked_keepsSchedule _) (.refl _))) (.refl s)
  | capEdge => cases run; exact State.running_keepsSchedule (State.captureEdge_keepsSchedule s _)
  | frameEnd | receiveTimeout => cases run; exact State.running_keepsSchedule (State.endFrame_keepsSchedule s _ _ _)
  | overdrive =>
    change execOverdrive s = .next t at run
    unfold execOverdrive at run
    split at run
    · cases run; exact State.running_keepsSchedule (State.cutByOverdrive_keepsSchedule s _)
    · cases run; exact .refl s
  | beaconSentWhole =>
    change execBeaconSentWhole s = .next t at run
    unfold execBeaconSentWhole at run
    split at run
    · cases run; exact State.running_keepsSchedule (State.sentWhole_keepsSchedule s _)
    · cases run; exact .refl s
  | ownSendInstant => cases run; exact State.running_keepsSchedule (State.takeOwnSend_keepsSchedule s)
  | windowClose => cases run; exact State.running_keepsSchedule (State.takeWindowClose_keepsSchedule s)
  | epochClose => cases run; exact State.running_keepsSchedule (State.takeEpochClose_keepsSchedule s)
  | slewPoint => cases run; exact State.running_keepsSchedule (State.takeSlewRow_keepsSchedule s)
  | triggerFire handle => cases run; exact State.running_keepsSchedule (State.fireIfDue_keepsSchedule s handle)
  | sharedDeadline handle => cases run; exact State.running_keepsSchedule (State.deadlineIfDue_keepsSchedule s handle)
  | listenDeadline => cases run; exact State.running_keepsSchedule (State.takeListenDeadline_keepsSchedule s)
  | declinedExpiry => cases run; exact State.running_keepsSchedule (State.takeExpiries_keepsSchedule s)
  | pulseEnd => cases run; exact State.running_keepsSchedule (.of_parts rfl)
  | startOfFrame => cases run; exact .ite (.of_parts rfl) (.refl s)
  | referencePeriod stop =>
    cases run
    exact State.running_keepsSchedule
      ((State.beginPeriod_keepsSchedule s).trans (State.runPeriod_keepsSchedule 128 stop _))

theorem step_keepsSchedule {s t : State} (run : step s = .next t) : s.KeepsSchedule t := by
  unfold step at run
  split at run
  · cases run
    exact .refl s
  · rename_i rest _
    have dequeued : s.KeepsSchedule { s with pending := rest } := .of_parts rfl
    exact dequeued.trans (exec_keepsSchedule _ run)

/-- Settles O56: a firing on time or late is the only event that counts repetitions, and an entry is made with all of
them to come. -/
theorem stepKeepsRepetitionAccounting : Obligations.StepKeepsRepetitionAccounting :=
  fun _ _ accounting run => (step_keepsSchedule run).accounting accounting

/-- Settles O57: an entry is made PENDING in TRACK or HOLDOVER alone, and leaving them abandons every one. -/
theorem stepKeepsAgreement : Obligations.StepKeepsAgreement :=
  fun _ _ agreement run => (step_keepsSchedule run).agreement agreement

end Sys2Proof.Machine
end

section
/-!
The schedule's own commands: what READ ENTRY and READ SCHEDULE answer, the LOCAL entry of SCHEDULE and the removal of
CANCEL (R118 to R122, R133 to R137, R145, R161).
-/
namespace Sys2Proof.Machine

/-! ## READ ENTRY (R136) -/

theorem exec_readEntry {s : State} (takes : s.takes = true) (handle : Byte) : exec (.readEntry handle) s =
    .next (s.answered 0x13 1 (s.readEntryAnswer handle).1 (s.readEntryAnswer handle).2) :=
  congrArg Host.Outcome.next (State.command_answers takes rfl rfl rfl)

/-- Settles O7: below 16 the handle finds an entry or a free slot. -/
theorem readEntryReportsTheSlot : Obligations.ReadEntryReportsTheSlot := by
  intro s handle takes
  rw [exec_readEntry takes]
  refine ⟨fun e inRange held => ?_, fun inRange free => ?_, fun outside => ?_⟩
  · have answer : s.readEntryAnswer handle = (.ok, .entry (s.entryRecord handle.toNat e)) := by
      simp [State.readEntryAnswer, inRange.not_ge, State.entry_eq_some.2 held]
    rw [answer]
    rfl
  · have answer : s.readEntryAnswer handle = (.notFound, .nothing) := by
      simp [State.readEntryAnswer, inRange.not_ge, State.entry, free]
    rw [answer]
    rfl
  · have answer : s.readEntryAnswer handle = (.invalid, .nothing) := if_pos outside
    rw [answer]
    rfl

/-! ## READ SCHEDULE (R120, R137) -/

/-- By a key and, where it is equal, in a given order. -/
def byKeyThen {α : Type} (key : α → Nat) (before : α → α → Prop) (a b : α) : Prop :=
  key a < key b ∨ (key a = key b ∧ before a b)

theorem byKeyThen_of_le {α : Type} {key : α → Nat} {before : α → α → Prop} {a b : α} (le : key a ≤ key b)
    (first : before a b) : byKeyThen key before a b :=
  le.lt_or_eq.imp_right fun same => ⟨same, first⟩

theorem byKeyThen.le {α : Type} {key : α → Nat} {before : α → α → Prop} {a b : α} (h : byKeyThen key before a b) :
    key a ≤ key b :=
  h.elim Nat.le_of_lt fun same => same.1.le

/-- An element that comes before all of a sorted list is inserted in its place. -/
theorem orderedInsert_byKeyThen {α : Type} (key : α → Nat) {before : α → α → Prop} {x : α} {l : List α}
    (first : ∀ y ∈ l, before x y) (sorted : l.Pairwise (byKeyThen key before)) :
    (l.orderedInsert (fun a b => key a ≤ key b) x).Pairwise (byKeyThen key before) := by
  induction l with
  | nil => exact List.pairwise_singleton _ x
  | cons y rest ih =>
    obtain ⟨firstHead, firstRest⟩ := List.forall_mem_cons.1 first
    obtain ⟨least, sortedRest⟩ := List.pairwise_cons.1 sorted
    rw [List.orderedInsert_cons]
    split
    · rename_i below
      refine List.pairwise_cons.2 ⟨List.forall_mem_cons.2 ⟨byKeyThen_of_le below firstHead, fun z hz => ?_⟩, sorted⟩
      exact byKeyThen_of_le (below.trans (least z hz).le) (firstRest z hz)
    · rename_i above
      refine List.pairwise_cons.2 ⟨fun z hz => ?_, ih firstRest sortedRest⟩
      obtain rfl | inRest := (List.mem_orderedInsert (r := fun a b => key a ≤ key b)).1 hz
      · exact .inl (Nat.lt_of_not_le above)
      · exact least z inRest

/-- Sorting by a key keeps the order in which elements of one key stood. -/
theorem sortBy_byKeyThen {α : Type} (key : α → Nat) {before : α → α → Prop} {l : List α}
    (ordered : l.Pairwise before) :
    (sortBy (fun a b => decide (key a ≤ key b)) l).Pairwise (byKeyThen key before) := by
  rw [sortBy_eq_insertionSort]
  simp only [decide_eq_true_eq]
  induction l with
  | nil => exact List.Pairwise.nil
  | cons x rest ih =>
    obtain ⟨first, ordered⟩ := List.pairwise_cons.1 ordered
    rw [List.insertionSort_cons]
    exact orderedInsert_byKeyThen key (fun y hy => first y ((List.mem_insertionSort _).1 hy)) (ih ordered)

namespace State

/-- The entries stand in ascending order of handle. -/
theorem handled_pairwise (s : State) : s.handled.Pairwise (fun a b => a.1 < b.1) := by
  refine List.Pairwise.filterMap _ (fun a b ordered x hx y hy => ?_) List.pairwise_lt_range
  obtain ⟨p, -, rfl⟩ := Option.map_eq_some_iff.1 hx
  obtain ⟨q, -, rfl⟩ := Option.map_eq_some_iff.1 hy
  exact ordered

/-- The list holds every entry (R120). -/
theorem mem_entryList {s : State} (size : s.schedule.slots.length = 16) (h : Nat) (e : Entry) :
    (h, e) ∈ s.entryList ↔ s.holds h e := by
  rw [entryList, mem_sortBy, mem_handled]
  exact and_iff_right_of_imp fun held => size ▸ (List.getElem?_eq_some_iff.1 held).1

/-- The list stands in ascending order of next fire time and, where these are equal, of handle (R120). -/
theorem entryList_pairwise (s : State) : s.entryList.Pairwise
    (fun a b => a.2.nextFire < b.2.nextFire ∨ (a.2.nextFire = b.2.nextFire ∧ a.1 < b.1)) :=
  sortBy_byKeyThen (fun p : Nat × Entry => p.2.nextFire) s.handled_pairwise

end State

theorem exec_readSchedule {s : State} (takes : s.takes = true) (position : Byte) : exec (.readSchedule position) s =
    .next (s.answered 0x14 1 (s.readScheduleAnswer position).1 (s.readScheduleAnswer position).2) :=
  congrArg Host.Outcome.next (State.command_answers takes rfl rfl rfl)

/-- Settles O8: the list is the entries by handle, sorted by their next fire time; the sort is stable. -/
theorem readScheduleReadsTheOrderedList : Obligations.ReadScheduleReadsTheOrderedList := by
  intro s takes size
  refine ⟨s.entryList, State.mem_entryList size, s.entryList_pairwise, fun position => ?_⟩
  rw [exec_readSchedule takes]
  refine ⟨fun outside => ?_, fun inRange beyond => ?_, fun h e inRange entry => ?_⟩
  · have answer : s.readScheduleAnswer position = (.invalid, .nothing) := if_pos outside
    rw [answer]
    rfl
  · have answer : s.readScheduleAnswer position = (.empty, .nothing) := by
      simp [State.readScheduleAnswer, inRange.not_ge, List.getElem?_eq_none beyond]
    rw [answer]
    rfl
  · have answer : s.readScheduleAnswer position = (.ok, .listed s.entryList.length (s.entryRecord h e)) := by
      simp [State.readScheduleAnswer, inRange.not_ge, entry]
    rw [answer]
    rfl

/-! ## SCHEDULE (R121, R122) -/

/-- A byte that names a line set names the empty one only if it is 0 (R201). -/
theorem lineSet_eq_zero {b : Byte} (named : b.toNat < 16) : BitVec.ofNat 4 b.toNat = 0 ↔ b = 0 := by
  constructor <;> intro zero
  · have value := congrArg BitVec.toNat zero
    simp only [BitVec.toNat_ofNat] at value
    exact BitVec.eq_of_toNat_eq (by simpa [Nat.mod_eq_of_lt named] using value)
  · simp [zero]

namespace State

/-- The lowest free slot of a schedule of 16 is the one that a command takes (R118). -/
theorem freeSlot_of_isLowestFree {s : State} {h : Nat} (size : s.schedule.slots.length = 16)
    (lowest : s.isLowestFree h) : s.freeSlot = some h := by
  obtain ⟨inRange, free, least⟩ := lowest
  refine freeSlot_eq_some.2 ⟨inRange, by simp [entry, free], fun j before empty => least j before ?_⟩
  have inside : j < s.schedule.slots.length := by omega
  have held : s.entry j = s.schedule.slots[j] := by simp [entry, inside]
  rw [List.getElem?_eq_getElem inside, ← held, empty]

theorem freeSlot_of_full {s : State} (size : s.schedule.slots.length = 16)
    (full : ∀ h, h < 16 → s.schedule.slots[h]? ≠ some none) : s.freeSlot = none := by
  refine Option.eq_none_iff_forall_ne_some.2 fun h free => ?_
  obtain ⟨inRange, empty, -⟩ := freeSlot_eq_some.1 free
  have inside : h < s.schedule.slots.length := by omega
  have held : s.entry h = s.schedule.slots[h] := by simp [entry, inside]
  exact full h inRange (by rw [List.getElem?_eq_getElem inside, ← held, empty])

/-- The ranges that SCHEDULE and PROPOSE check are those of R121 and R142. -/
theorem triggerRangesHold_iff {s : State} {p : TriggerParams} (named : p.lines.toNat < 16) :
    triggerRangesHold s.epochLen p (BitVec.ofNat 4 p.lines.toNat) = true ↔ s.paramsInRange p := by
  have lines := not_congr (lineSet_eq_zero named)
  have single : (p.period ≠ 0 ∨ p.repeats = 1) ↔ (p.period = 0 → p.repeats = 1) := by tauto
  simp only [triggerRangesHold, Bool.and_eq_true, Bool.or_eq_true, decide_eq_true_eq, bne_iff_ne, beq_iff_eq, ne_eq,
    lines, paramsInRange] at single ⊢
  tauto

theorem scheduleAnswer_unnamed {s : State} {p : TriggerParams} {options : Byte}
    (unnamed : 16 ≤ p.lines.toNat ∨ 2 ≤ options.toNat) : s.scheduleAnswer p options = refusal s .invalid := by
  unfold scheduleAnswer
  rcases unnamed with noLines | noOptions
  · have unnamed : lineSetOf p.lines = none := if_neg noLines.not_gt
    rw [unnamed]
    cases reportFiresOf options <;> rfl
  · have unnamed : reportFiresOf options = none := if_neg noOptions.not_gt
    rw [unnamed]
    cases lineSetOf p.lines <;> rfl

/-- SCHEDULE with a line set and options that name something: the checks in their order (R121). -/
theorem scheduleAnswer_named (s : State) {p : TriggerParams} {options : Byte} (lines : p.lines.toNat < 16)
    (report : options.toNat < 2) : s.scheduleAnswer p options =
      if s.sync.state = .halted then refusal s .state
      else if ¬ s.paramsInRange p then refusal s .invalid
      else if s.targetOf p ≤ s.now then refusal s .past
      else match s.freeSlot with
        | none => refusal s .full
        | some h => answerOk (s.setSlot h
            (some (s.newLocal p (BitVec.ofNat 4 p.lines.toNat) (options.getLsbD 0)))) (.handle h) := by
  simp only [← triggerRangesHold_iff lines, Bool.not_eq_true, ← Bool.not_eq_true']
  unfold scheduleAnswer lineSetOf reportFiresOf
  rw [if_pos lines, if_pos report]
  rfl

end State

theorem exec_schedule {s after : State} {p : TriggerParams} {options : Byte} {code : ResponseCode} {body : ResponseBody}
    (takes : s.takes = true) (answers : s.scheduleAnswer p options = ⟨after, code, body⟩)
    (serial : after.port.serial = s.port.serial) :
    exec (.schedule p options) s = .next (after.answered 0x40 15 code body) :=
  congrArg Host.Outcome.next (State.command_answers takes rfl answers serial)

/-- Settles O22: the checks one after another; past them all the entry stands in the lowest free slot. -/
theorem scheduleMakesALocalEntry : Obligations.ScheduleMakesALocalEntry := by
  intro s p options takes size
  refine ⟨fun unnamed => exec_schedule takes (State.scheduleAnswer_unnamed unnamed) rfl, fun lines report => ?_⟩
  have answer := State.scheduleAnswer_named s lines report
  refine ⟨fun halted => ?_, fun awake wrong => ?_, fun awake ranges past => ?_, fun awake ranges future full => ?_,
    fun h awake ranges future lowest => ?_⟩
  · rw [if_pos halted] at answer
    exact exec_schedule takes answer rfl
  · rw [if_neg awake, if_pos wrong] at answer
    exact exec_schedule takes answer rfl
  · rw [if_neg awake, if_neg (not_not_intro ranges), if_pos past] at answer
    exact exec_schedule takes answer rfl
  · rw [if_neg awake, if_neg (not_not_intro ranges), if_neg future.not_ge, State.freeSlot_of_full size full] at answer
    exact exec_schedule takes answer rfl
  · rw [if_neg awake, if_neg (not_not_intro ranges), if_neg future.not_ge,
      State.freeSlot_of_isLowestFree size lowest] at answer
    exact exec_schedule takes answer rfl

/-! ## CANCEL (R133, R135, R145, R161) -/

namespace State

theorem endProposal_eq (s : State) (h : Nat) : s.endProposal h = { s with
    schedule.ownProposal := if s.schedule.ownProposal = some h then none else s.schedule.ownProposal } := by
  unfold endProposal
  split <;> rfl

/-- What a CANCEL leaves behind of another station's held entry (R161). -/
theorem declineCancelled_eq (s : State) (name : Pair) (e : Entry) {others : List Declined}
    (kept : others = s.schedule.declined.filter (fun r => r.name != name)) : s.declineCancelled name e =
    { s with schedule.declined :=
        if name.proposer ≠ ownNumber s.straps ∧ e.heldFlag = true ∧ s.now < e.nextFire - 2 * epochLength s.straps then
          (if 4 ≤ others.length then others.drop 1 else others) ++ [⟨name, e.nextFire - 2 * epochLength s.straps⟩]
        else s.schedule.declined } := by
  subst kept
  by_cases declines : name.proposer ≠ ownNumber s.straps ∧ e.heldFlag = true ∧
      s.now < e.nextFire - 2 * epochLength s.straps
  · rw [if_pos declines]
    exact if_pos declines
  · rw [if_neg declines]
    exact if_neg declines

theorem cancelEntry_local {s : State} {h : Nat} {e : Entry} (kind : e.kind = .localOnly) :
    s.cancelEntry h e = s.setSlot h none := by
  simp only [cancelEntry, kind]

theorem cancelEntry_shared {s : State} {h : Nat} {e : Entry} {name : Pair} (kind : e.kind = .shared name) :
    s.cancelEntry h e = (((s.setSlot h none).endProposal h).declineCancelled name e).post
      (.cancelled h name e.state (stampOf s.straps e.nextFire) e.fired e.skipped e.remaining) := by
  simp only [cancelEntry, kind]

end State

theorem exec_cancel {s after : State} {handle : Byte} {code : ResponseCode} (takes : s.takes = true)
    (answers : s.cancelAnswer handle = ⟨after, code, .nothing⟩) (serial : after.port.serial = s.port.serial) :
    exec (.cancel handle) s = .next (after.answered 0x42 1 code .nothing) :=
  congrArg Host.Outcome.next (State.command_answers takes rfl answers serial)

/-- An entry that a slot holds is cancelled. -/
theorem exec_cancel_held {s : State} {handle : Byte} {e : Entry} (takes : s.takes = true)
    (inRange : handle.toNat < 16) (held : s.holds handle.toNat e) :
    exec (.cancel handle) s = .next ((s.cancelEntry handle.toNat e).answered 0x42 1 .ok .nothing) := by
  have serial : (s.cancelEntry handle.toNat e).port.serial = s.port.serial :=
    congrArg (·.port.serial) (State.cancelEntry_offSchedule s handle.toNat e)
  refine exec_cancel takes ?_ serial
  simp [State.cancelAnswer, inRange.not_ge, State.entry_eq_some.2 held, answerOk]

/-- Settles O24: a LOCAL entry just goes; a SHARED one takes its steps, slot, own proposal, declined list and record. -/
theorem cancelRemovesTheEntry : Obligations.CancelRemovesTheEntry := by
  intro s handle takes
  refine ⟨fun outside => exec_cancel takes (if_pos outside) rfl, fun inRange free => exec_cancel takes ?_ rfl,
    fun e inRange held kind => ?_, fun e name inRange held kind others kept => ?_⟩
  · simp [State.cancelAnswer, inRange.not_ge, State.entry, free, refusal]
  · rw [exec_cancel_held takes inRange held, State.cancelEntry_local kind]
    rfl
  · have same : others = ((s.setSlot handle.toNat none).endProposal handle.toNat).schedule.declined.filter
        (fun r => r.name != name) := by rw [kept, State.endProposal_eq]; rfl
    rw [exec_cancel_held takes inRange held, State.cancelEntry_shared kind, State.declineCancelled_eq _ name e same,
      State.endProposal_eq]
    rfl

end Sys2Proof.Machine
end

section
/-!
Firing on time, and the late firings of a forward jump (R123, R124, R126, R128 to R131, R161, R172).
-/
namespace Sys2Proof.Machine

/-! ## A firing on time (R123, R126) -/

theorem exec_triggerFire {s : State} (running : s.port.starting = none) (h : Fin 16) :
    exec (.triggerFire h) s = .next (s.fireIfDue h) :=
  congrArg Host.Outcome.next (if_pos (State.running_of_not_starting running))

/-- The last repetition removes the entry, and any other moves it on by period times E (R123, R126). -/
theorem Entry.afterFire_eq (epoch : Nat) (e : Entry) : e.afterFire epoch =
    if e.remaining ≤ 1 then none
    else some { e with
      fired := e.fired + 1
      remaining := e.remaining - 1
      heldFlag := false
      nextFire := e.nextFire + e.period * epoch } := by
  have last : e.counted.remaining = 0 ↔ e.remaining ≤ 1 := Nat.sub_eq_zero_iff_le
  simp only [Entry.afterFire, last]
  rfl

namespace State

theorem fireIfDue_due {s : State} {h : Nat} {e : Entry} (held : s.holds h e) (armed : e.state = .armed)
    (due : e.nextFire = s.now) : s.fireIfDue h = s.fireOnTime h e := by
  simp [fireIfDue, entry_eq_some.2 held, armed, due]

theorem fireAs_silent {s : State} {e : Entry} (silent : e.reportFires = false) (h : Nat) (after : Option Entry)
    (late : Bool) (k : Nat) : s.fireAs h e after late k = (s.pulseLines e.lines e.width).setSlot h after := by
  simp [fireAs, silent]

theorem fireAs_reports {s : State} {e : Entry} (reports : e.reportFires = true) (h : Nat) (after : Option Entry)
    (late : Bool) (k : Nat) : s.fireAs h e after late k =
      ((s.pulseLines e.lines e.width).setSlot h after).post (.fire h e.kind (stampOf s.straps e.nextFire) late k) := by
  simp [fireAs, reports]

end State

/-- Settles O42: what is due fires by `fireAs`, with its record or without. -/
theorem firingOnTime : Obligations.FiringOnTime := by
  intro s h running
  rw [exec_triggerFire running]
  refine ⟨fun notDue => ?_, fun e held armed due u fired => ?_⟩
  · rw [State.fireIfDue_of_not_due fun e held armed => (notDue e held).resolve_left (by simp [armed])]
  · have fires : (s.pulseLines e.lines e.width).setSlot h (e.afterFire s.epochLen) = u := by
      rw [fired, Entry.afterFire_eq]
      rfl
    rw [State.fireIfDue_due held armed due, State.fireOnTime]
    refine ⟨fun silent => ?_, fun reports => ?_⟩
    · rw [State.fireAs_silent silent, fires]
    · rw [State.fireAs_reports reports, fires]

/-! ## An entry at a jump (R129, R130) -/

/-- Whether a forward jump from a to b passes the entry (R128, R129). -/
def Entry.passed (a b : Nat) (e : Entry) : Bool := e.state == .armed && decide (a < e.nextFire ∧ e.nextFire ≤ b)

theorem Entry.passed_iff (a b : Nat) (e : Entry) :
    e.passed a b = true ↔ e.state = .armed ∧ a < e.nextFire ∧ e.nextFire ≤ b := by
  simp [Entry.passed]

theorem Entry.skippedBy_eq (epoch b : Nat) (e : Entry) :
    e.skippedBy epoch b = min ((b - e.nextFire) / (e.period * epoch)) (e.remaining - 1) := by
  unfold Entry.skippedBy
  split
  · rename_i once
    simp [once]
  · rw [Entry.passedBy, Nat.add_sub_cancel_left]
    rfl

theorem Entry.afterLateFire_removed {epoch b : Nat} {e : Entry}
    (removed : e.period = 0 ∨ e.remaining ≤ 1 + (b - e.nextFire) / (e.period * epoch)) :
    e.afterLateFire epoch b = none := by
  refine if_pos (removed.imp_right fun spent => ?_)
  rw [Entry.skippedBy_eq]
  exact le_min (Nat.sub_le_iff_le_add'.2 spent) le_rfl

/-- An entry with repetitions left over moves to its first one after b (R130). -/
theorem Entry.afterLateFire_stands {epoch b j : Nat} {e : Entry} (repeating : 0 < e.period)
    (passes : j = 1 + (b - e.nextFire) / (e.period * epoch)) (more : j < e.remaining) :
    e.afterLateFire epoch b = some { e with
      fired := e.fired + 1, skipped := e.skipped + (j - 1), remaining := e.remaining - j,
      heldFlag := false, nextFire := e.nextFire + j * (e.period * epoch) } := by
  have skipped : e.skippedBy epoch b = min (j - 1) (e.remaining - 1) := by
    rw [Entry.skippedBy_eq, passes, Nat.add_sub_cancel_left]
  have passed : e.passedBy epoch b = j := passes.symm
  have some_passed : 1 ≤ j := passes ▸ Nat.le_add_right 1 _
  clear passes
  have fewer : min (j - 1) (e.remaining - 1) = j - 1 := by omega
  have counted : e.counted.remaining = e.remaining - 1 := rfl
  have left : e.remaining - 1 - (j - 1) = e.remaining - j := by omega
  unfold Entry.afterLateFire
  simp only [skipped, fewer, counted, left]
  rw [if_neg (by omega), passed]
  rfl

/-- Of repetitions a distance apart, the one after all those at or before b is the first beyond b (R130). -/
theorem Entry.first_after_jump {b distance : Nat} {e : Entry} (reached : e.nextFire ≤ b) (apart : 0 < distance) :
    b < e.nextFire + (1 + (b - e.nextFire) / distance) * distance ∧
      e.nextFire + (1 + (b - e.nextFire) / distance) * distance ≤ b + distance := by
  have beyond := Nat.lt_div_mul_add apart (a := b - e.nextFire)
  have within := Nat.div_mul_le_self (b - e.nextFire) distance
  rw [Nat.add_mul, Nat.one_mul]
  omega

/-! ## The lines under several pulses (R124) -/

/-- A line on which pulses of these lengths begin. -/
def Line.pulsedBy (l : Line) (pulses : List Nat) : Line := ⟨pulses.foldl max l.remaining, l.active || !pulses.isEmpty⟩

@[simp] theorem Line.pulsedBy_nil (l : Line) : l.pulsedBy [] = l := by simp [Line.pulsedBy]

theorem Line.pulsedBy_cons (l : Line) (width : Nat) (pulses : List Nat) :
    l.pulsedBy (width * 20 :: pulses) = (l.pulse width).pulsedBy pulses := by
  simp [Line.pulsedBy, Line.pulse]

/-- The lengths of the pulses that late firings begin on a line. -/
def pulsesOn (i : Nat) (fired : List (Nat × Entry)) : List Nat :=
  (fired.filter (fun p => p.2.lines.getLsbD i)).map (fun p => p.2.width * 20)

/-! ## Late firings, one after another (R128 to R130) -/

/-- The FIRE record of a late firing at a jump to b, when report-fires is set (R129, R130). -/
def lateRecord (straps : Straps) (b : Nat) (p : Nat × Entry) : Option EventRecord :=
  if p.2.reportFires then
    some (.fire p.1 p.2.kind (stampOf straps p.2.nextFire) true
      (p.2.skipped + min ((b - p.2.nextFire) / (p.2.period * epochLength straps)) (p.2.remaining - 1)))
  else none

namespace State

/-- The late firings of these entries at a jump to b, in order. -/
def fireAllLate (s : State) (b : Nat) (fired : List (Nat × Entry)) : State :=
  fired.foldl (fun u p => u.fireLate b p.1 p.2) s

theorem lateRecords_eq (s : State) (a b : Nat) :
    s.lateRecords a b = (s.passedEntries a b).filterMap (lateRecord s.straps b) := rfl

theorem fireLate_offSchedule (s : State) (b h : Nat) (e : Entry) : (s.fireLate b h e).offSchedule = s.offSchedule :=
  fireAs_offSchedule _ _ _ _ _ _

theorem fireLate_straps (s : State) (b h : Nat) (e : Entry) : (s.fireLate b h e).straps = s.straps :=
  offSchedule_straps (fireLate_offSchedule s b h e)

theorem fireLate_schedule (s : State) (b h : Nat) (e : Entry) : (s.fireLate b h e).schedule =
    ((s.pulseLines e.lines e.width).setSlot h (e.afterLateFire s.epochLen b)).schedule :=
  fireAs_schedule _ _ _ _ _ _

theorem fireLate_posted (s : State) (b h : Nat) (e : Entry) : (s.fireLate b h e).posted =
    ([(h, e)].filterMap (lateRecord s.straps b)).foldl postOn s.posted := by
  rw [fireLate, fireAs_posted, Entry.skippedBy_eq]
  cases reports : e.reportFires <;> simp [lateRecord, reports]

theorem fireLate_line (s : State) (b h : Nat) (e : Entry) (i : Nat) : (s.fireLate b h e).schedule.lines[i]? =
    s.schedule.lines[i]?.map fun l => l.pulsedBy (pulsesOn i [(h, e)]) := by
  have pulsed : (s.fireLate b h e).schedule.lines =
      s.schedule.lines.mapIdx (fun i l => if e.lines.getLsbD i then l.pulse e.width else l) := by
    rw [fireLate_schedule]
    rfl
  rw [pulsed, List.getElem?_mapIdx]
  congr 1
  funext l
  cases on : e.lines.getLsbD i <;> simp [pulsesOn, on, Line.pulsedBy_cons]

theorem fireAllLate_offSchedule (s : State) (b : Nat) (fired : List (Nat × Entry)) :
    (s.fireAllLate b fired).offSchedule = s.offSchedule :=
  foldl_keeps (fun (u : State) (p : Nat × Entry) => fireLate_offSchedule u b p.1 p.2) fired s

/-- Late firings leave the own proposal, the tag counter and the declined list. -/
theorem fireAllLate_beside (s : State) (b : Nat) (fired : List (Nat × Entry)) :
    (s.fireAllLate b fired).schedule = { s.schedule with
      slots := (s.fireAllLate b fired).schedule.slots, lines := (s.fireAllLate b fired).schedule.lines } := by
  have beside : ∀ u : State, ({ u.schedule with slots := [], lines := [] } : Schedule) =
      { s.schedule with slots := [], lines := [] } → u.schedule =
      { s.schedule with slots := u.schedule.slots, lines := u.schedule.lines } := fun u same =>
    congrArg (fun x : Schedule => { x with slots := u.schedule.slots, lines := u.schedule.lines }) same
  refine beside _ (foldl_keeps (g := fun u : State => ({ u.schedule with slots := [], lines := [] } : Schedule))
    (fun u p => ?_) fired s)
  rw [fireLate_schedule]
  rfl

theorem fireAllLate_posted (s : State) (b : Nat) (fired : List (Nat × Entry)) :
    (s.fireAllLate b fired).posted = (fired.filterMap (lateRecord s.straps b)).foldl postOn s.posted := by
  induction fired generalizing s with
  | nil => rfl
  | cons p fired ih =>
    have rest := ih (s.fireLate b p.1 p.2)
    rw [fireLate_straps, fireLate_posted, ← List.foldl_append, ← List.filterMap_append] at rest
    exact rest

theorem fireAllLate_line (s : State) (b : Nat) (fired : List (Nat × Entry)) (i : Nat) :
    (s.fireAllLate b fired).schedule.lines[i]? = s.schedule.lines[i]?.map fun l => l.pulsedBy (pulsesOn i fired) := by
  induction fired generalizing s with
  | nil => simp [fireAllLate, pulsesOn]
  | cons p fired ih =>
    have rest := ih (s.fireLate b p.1 p.2)
    rw [fireLate_line, Option.map_map] at rest
    refine rest.trans (congrArg (fun f => s.schedule.lines[i]?.map f) (funext fun l => ?_))
    cases on : p.2.lines.getLsbD i <;> simp [pulsesOn, on, Line.pulsedBy_cons]

theorem fireAllLate_lines_length (s : State) (b : Nat) (fired : List (Nat × Entry)) :
    (s.fireAllLate b fired).schedule.lines.length = s.schedule.lines.length := by
  refine foldl_keeps (g := fun u : State => u.schedule.lines.length) (fun (u : State) (p : Nat × Entry) => ?_) fired s
  rw [fireLate_schedule]
  exact List.length_mapIdx

/-- A slot whose entry does not fire stands as it did. -/
theorem fireAllLate_slot_other (s : State) (b : Nat) {fired : List (Nat × Entry)} {k : Nat}
    (other : ∀ p ∈ fired, p.1 ≠ k) : (s.fireAllLate b fired).schedule.slots[k]? = s.schedule.slots[k]? := by
  induction fired generalizing s with
  | nil => rfl
  | cons p fired ih =>
    obtain ⟨first, others⟩ := List.forall_mem_cons.1 other
    refine (ih (s.fireLate b p.1 p.2) others).trans ?_
    rw [fireLate_schedule]
    exact List.getElem?_set_ne first

theorem fireAllLate_slot_fired (s : State) (b : Nat) {fired : List (Nat × Entry)}
    (ascending : fired.Pairwise (fun p q => p.1 < q.1)) {h : Nat} {e : Entry} (fires : (h, e) ∈ fired)
    (inside : h < s.schedule.slots.length) :
    (s.fireAllLate b fired).schedule.slots[h]? = some (e.afterLateFire s.epochLen b) := by
  induction fired generalizing s with
  | nil => cases fires
  | cons p fired ih =>
    obtain ⟨later, ascending⟩ := List.pairwise_cons.1 ascending
    have slots : (s.fireLate b p.1 p.2).schedule.slots = s.schedule.slots.set p.1 (p.2.afterLateFire s.epochLen b) := by
      rw [fireLate_schedule]
      rfl
    obtain rfl | fires := List.mem_cons.1 fires
    · refine (fireAllLate_slot_other (s.fireLate b h e) b fun q hq => (later q hq).ne').trans ?_
      rw [slots, List.getElem?_set_self inside]
    · have rest := ih (s.fireLate b p.1 p.2) ascending fires (by rwa [slots, List.length_set])
      rw [epochLen, fireLate_straps] at rest
      exact rest

/-! ## A jump (R128 to R131, R161) -/

/-- The entries of a list of slots that a jump passes. -/
def passedIn (s : State) (a b : Nat) (handles : List Nat) : List (Nat × Entry) :=
  handles.filterMap fun h => ((s.entry h).filter (Entry.passed a b)).map fun e => (h, e)

theorem passedEntries_eq (s : State) (a b : Nat) : s.passedEntries a b = s.passedIn a b (List.range 16) := by
  have passed : s.passedEntries a b = s.handled.filter (fun p => p.2.passed a b) := rfl
  rw [passed, handled, List.filter_filterMap, passedIn]
  congr 1
  funext h
  rw [Option.filter_map]
  rfl

theorem mem_passedEntries (s : State) (a b h : Nat) (e : Entry) : (h, e) ∈ s.passedEntries a b ↔
    h < 16 ∧ s.holds h e ∧ e.state = .armed ∧ a < e.nextFire ∧ e.nextFire ≤ b := by
  rw [passedEntries, List.mem_filter, mem_handled, and_assoc]
  exact and_congr_right fun _ => and_congr_right fun _ => Entry.passed_iff a b e

theorem passedEntries_pairwise (s : State) (a b : Nat) : (s.passedEntries a b).Pairwise (fun p q => p.1 < q.1) :=
  s.handled_pairwise.filter _

/-- One firing touches its own slot alone, so going through the slots fires what stood there at the jump. -/
theorem foldl_lateFireIfPassed (a b : Nat) {handles : List Nat} (distinct : handles.Nodup) (s : State) :
    handles.foldl (lateFireIfPassed a b) s = s.fireAllLate b (s.passedIn a b handles) := by
  induction handles generalizing s with
  | nil => rfl
  | cons h handles ih =>
    obtain ⟨fresh, distinct⟩ := List.nodup_cons.1 distinct
    rw [List.foldl_cons, ih distinct]
    cases passes : (s.entry h).filter (Entry.passed a b) with
    | none =>
      have stays : lateFireIfPassed a b s h = s := by
        unfold lateFireIfPassed
        split
        · rename_i e held
          have kept : ¬ e.passed a b = true := by simpa [held] using passes
          exact if_neg fun passed => kept ((Entry.passed_iff a b e).2 passed)
        · rfl
      rw [stays, passedIn, passedIn, List.filterMap_cons, passes]
      rfl
    | some e =>
      obtain ⟨held, passed⟩ := Option.filter_eq_some_iff.1 passes
      have fires : lateFireIfPassed a b s h = s.fireLate b h e := by
        unfold lateFireIfPassed
        rw [held]
        exact if_pos ((Entry.passed_iff a b e).1 passed)
      have others : (s.fireLate b h e).passedIn a b handles = s.passedIn a b handles := by
        refine List.filterMap_congr fun k hk => ?_
        have other : h ≠ k := fun same => fresh (same ▸ hk)
        have slot : (s.fireLate b h e).entry k = s.entry k := by
          unfold entry
          rw [fireLate_schedule]
          exact congrArg (fun slot : Option (Option Entry) => slot.getD none) (List.getElem?_set_ne other)
        rw [slot]
      rw [fires, others, passedIn, passedIn, List.filterMap_cons, passes]
      rfl

/-- A forward jump: the late firings in ascending order of handle, and the declined records that it passes go
(R128, R161). -/
theorem jumpSchedule_forward (s : State) {a b : Nat} (forward : a < b) : s.jumpSchedule a b =
    { s.fireAllLate b (s.passedEntries a b) with
      schedule.declined := s.schedule.declined.filter (fun d => decide (d.expiry ≤ a ∨ b < d.expiry)) } := by
  have declined := congrArg Schedule.declined (s.fireAllLate_beside b (s.passedEntries a b))
  have keeps : ∀ d : Declined, decide (¬(a < d.expiry ∧ d.expiry ≤ b)) = decide (d.expiry ≤ a ∨ b < d.expiry) :=
    fun d => decide_eq_decide.2 (by omega)
  unfold jumpSchedule
  rw [if_pos forward, foldl_lateFireIfPassed a b List.nodup_range, ← passedEntries_eq]
  simp only [keeps, declined]

theorem jumpSchedule_slots (s : State) {a b : Nat} (forward : a < b) :
    (s.jumpSchedule a b).schedule.slots = (s.fireAllLate b (s.passedEntries a b)).schedule.slots := by
  rw [jumpSchedule_forward s forward]

theorem jumpSchedule_lines (s : State) {a b : Nat} (forward : a < b) :
    (s.jumpSchedule a b).schedule.lines = (s.fireAllLate b (s.passedEntries a b)).schedule.lines := by
  rw [jumpSchedule_forward s forward]

/-- What a forward jump leaves, but for the slots and the lines (R128, R161, R172). -/
theorem jumpSchedule_eq (s : State) {a b : Nat} (forward : a < b) (room : s.capture.queue.length ≤ 16) :
    s.jumpSchedule a b = { s.withRecords (s.lateRecords a b) with
      schedule.slots := (s.jumpSchedule a b).schedule.slots
      schedule.lines := (s.jumpSchedule a b).schedule.lines
      schedule.declined := s.schedule.declined.filter (fun d => decide (d.expiry ≤ a ∨ b < d.expiry)) } := by
  have posted := s.fireAllLate_posted b (s.passedEntries a b)
  rw [← lateRecords_eq, State.posted, State.posted, foldl_postOn _ _ _ room] at posted
  obtain ⟨capture, overflow⟩ := Prod.mk.inj posted
  refine eq_of_offSchedule (jumpSchedule_offSchedule s a b) ⟨?_, ?_, ?_⟩
  · rw [jumpSchedule_forward s forward]
    exact congrArg (fun x : Schedule => { x with
      declined := s.schedule.declined.filter (fun d => decide (d.expiry ≤ a ∨ b < d.expiry)) })
      (s.fireAllLate_beside b (s.passedEntries a b))
  · rw [jumpSchedule_forward s forward]
    exact capture
  · rw [jumpSchedule_forward s forward]
    exact overflow

end State

/-- Settles O43: a forward jump is the late firings of the entries that it passes, one after another. -/
theorem jumpsAccountForEveryRepetition : Obligations.JumpsAccountForEveryRepetition := by
  refine ⟨fun s a b back => s.jumpSchedule_backward back, fun s a b h e forward inRange held => ⟨fun stands => ?_,
    fun armed after before => ?_⟩, fun epoch b e positive reached least => ⟨fun once =>
    Entry.afterLateFire_removed (.inl once), fun j repeating passes => ⟨fun spent =>
    Entry.afterLateFire_removed (.inr (passes ▸ spent)), fun more => ⟨_,
    Entry.afterLateFire_stands repeating passes more, rfl, ?_⟩⟩⟩, ?_⟩
  · rw [State.holds, s.jumpSchedule_slots forward, State.fireAllLate_slot_other]
    · exact held
    · rintro ⟨k, e'⟩ passed rfl
      obtain ⟨-, held', armed, after, before⟩ := (s.mem_passedEntries a b k e').1 passed
      obtain rfl : e' = e := by simpa [State.holds, held] using held'.symm
      rcases stands with pending | early | late
      · rw [armed] at pending
        cases pending
      · omega
      · omega
  · rw [s.jumpSchedule_slots forward]
    exact s.fireAllLate_slot_fired b (s.passedEntries_pairwise a b)
      ((s.mem_passedEntries a b h e).2 ⟨inRange, held, armed, after, before⟩) (List.getElem?_eq_some_iff.1 held).1
  · rw [passes]
    exact Entry.first_after_jump reached (Nat.mul_pos repeating positive)
  · rintro s t a b forward room rfl
    refine ⟨s.jumpSchedule_eq forward room, fun h idle => ?_, ?_, fun i l line pulses pulse => ?_⟩
    · rw [s.jumpSchedule_slots forward, State.fireAllLate_slot_other]
      rintro ⟨k, e⟩ passed rfl
      obtain ⟨inRange, held, -⟩ := (s.mem_passedEntries a b k e).1 passed
      rcases idle with outside | free
      · omega
      · rw [held] at free
        cases free
    · rw [s.jumpSchedule_lines forward, State.fireAllLate_lines_length]
    · rw [s.jumpSchedule_lines forward, State.fireAllLate_line, line, pulse]
      rfl

end Sys2Proof.Machine
end

section
/-!
Arming and the deadline: the evidence that R150 asks for, the evaluation of one PENDING entry and of every one, and the
abandonment of an entry that is PENDING still at its deadline (R145, R150 to R153, R156, R172).
-/
namespace Sys2Proof.Machine

/-- The entry as arming leaves it (R153, R155). -/
def Entry.armedNow (e : Entry) : Entry := { e with state := .armed, deadline := none }

namespace State

/-! ## The arming condition (R150) -/

theorem armingHolds_iff (s : State) (name : Pair) : s.armingHolds name = true ↔ s.evidenceFor name := by
  simp only [armingHolds, evidenceFor, own, Bool.and_eq_true, Bool.or_eq_true, beq_iff_eq, isMember_iff,
    List.all_eq_true, bne_iff_ne, ne_eq, List.contains_iff_mem, ← imp_iff_not_or]

/-- The arming condition reads the peer table and the straps alone. -/
theorem armingHolds_of_offSchedule {s t : State} (off : t.offSchedule = s.offSchedule) :
    t.armingHolds = s.armingHolds := by
  funext name
  simp only [armingHolds, isMember, peer, own, State.straps, offSchedule_peers off, offSchedule_straps off]

theorem evidenceFor_congr {s t : State} (peers : t.peers = s.peers) (straps : t.port.straps = s.port.straps)
    (name : Pair) : t.evidenceFor name ↔ s.evidenceFor name := by
  simp only [evidenceFor, memberAt, State.straps, peers, straps]

theorem memberView_of_offSchedule {s t : State} (off : t.offSchedule = s.offSchedule) :
    t.memberView = s.memberView := by
  unfold memberView isMember peer
  rw [offSchedule_peers off]

/-! ## One entry (R151, R153) -/

/-- The entry that stands PENDING in a slot has one name. -/
theorem holdsPending_name {s : State} {h : Nat} {name name' : Pair} {e e' : Entry} (pending : s.holdsPending h name e)
    (pending' : s.holdsPending h name' e') : name = name' := by
  have same := (pendingEntry_eq_some.2 pending).symm.trans (pendingEntry_eq_some.2 pending')
  exact congrArg Prod.fst (Option.some.inj same)

theorem evaluateSlot_arms {s : State} {h : Nat} {name : Pair} {e : Entry} (pending : s.holdsPending h name e)
    (evidence : s.evidenceFor name) : s.evaluateSlot h = s.arm h name e := by
  simp [evaluateSlot, pendingEntry_eq_some.2 pending, (armingHolds_iff s name).2 evidence]

theorem evaluateSlot_idle {s : State} {h : Nat} (idle : ∀ name e, s.holdsPending h name e → ¬ s.evidenceFor name) :
    s.evaluateSlot h = s := by
  unfold evaluateSlot
  split
  · rename_i name e pending
    exact if_neg fun arms => idle name e (pendingEntry_eq_some.1 pending) ((armingHolds_iff s name).1 arms)
  · rfl

/-- The record of an arming (R153). -/
def armedAs (s : State) (p : Nat × Pair × Entry) : EventRecord :=
  .armed p.1 p.2.1 (stampOf s.straps p.2.2.nextFire) s.memberView

theorem armedAs_of_offSchedule {s t : State} (off : t.offSchedule = s.offSchedule) : t.armedAs = s.armedAs := by
  funext p
  simp only [armedAs, State.straps, offSchedule_straps off, memberView_of_offSchedule off]

theorem arm_eq (s : State) (h : Nat) (name : Pair) (e : Entry) : s.arm h name e = ({ s with
    schedule.slots := s.schedule.slots.set h (some e.armedNow)
    schedule.ownProposal := if s.schedule.ownProposal = some h then none else s.schedule.ownProposal } : State).post
      (s.armedAs (h, name, e)) := by
  rw [arm, endProposal_eq]
  rfl

@[simp] theorem arm_slots (s : State) (h : Nat) (name : Pair) (e : Entry) :
    (s.arm h name e).schedule.slots = s.schedule.slots.set h (some e.armedNow) := by
  rw [arm_eq, post_schedule]

theorem arm_ownProposal (s : State) (h k : Nat) (name : Pair) (e : Entry) :
    (s.arm h name e).schedule.ownProposal = some k ↔ s.schedule.ownProposal = some k ∧ k ≠ h := by
  rw [arm, post_schedule]
  exact endProposal_ownProposal (s.setSlot h _) h k

theorem arm_posted (s : State) (h : Nat) (name : Pair) (e : Entry) :
    (s.arm h name e).posted = postOn s.posted (s.armedAs (h, name, e)) := by
  rw [arm_eq, post_posted]
  rfl

/-! ## Entries armed one after another -/

/-- The PENDING entries of a list of slots that arm (R150, R151). -/
def armingIn (s : State) (handles : List Nat) : List (Nat × Pair × Entry) :=
  (s.pendingsIn handles).filter fun p => s.armingHolds p.2.1

/-- These entries armed, one after another. -/
def armAll (s : State) (entries : List (Nat × Pair × Entry)) : State :=
  entries.foldl (fun u p => u.arm p.1 p.2.1 p.2.2) s

theorem mem_armingIn {s : State} {handles : List Nat} {h : Nat} {name : Pair} {e : Entry} :
    (h, name, e) ∈ s.armingIn handles ↔ h ∈ handles ∧ s.holdsPending h name e ∧ s.evidenceFor name := by
  rw [armingIn, List.mem_filter, armingHolds_iff, pendingsIn, List.mem_filterMap, ← and_assoc]
  refine and_congr_left fun _ => ⟨?_, fun ⟨listed, pending⟩ => ⟨h, listed, by rw [pendingEntry_eq_some.2 pending]; rfl⟩⟩
  rintro ⟨k, listed, found⟩
  obtain ⟨p, pending, same⟩ := Option.map_eq_some_iff.1 found
  cases same
  exact ⟨listed, pendingEntry_eq_some.1 pending⟩

theorem armingIn_cons (s : State) (h : Nat) (handles : List Nat) :
    s.armingIn (h :: handles) = s.armingIn [h] ++ s.armingIn handles := by
  simp only [armingIn, pendingsIn, ← List.filter_append, ← List.filterMap_append, List.singleton_append]

theorem armingIn_pairwise (s : State) (n : Nat) : (s.armingIn (List.range n)).Pairwise (fun p q => p.1 < q.1) :=
  (s.pendingsIn_pairwise n).filter _

theorem armedRecords_eq (s : State) : s.armedRecords = (s.armingIn (List.range 16)).map s.armedAs := by
  have pendings : s.pendings = s.pendingsIn (List.range 16) := rfl
  rw [armedRecords, pendings, armingIn, ← List.filterMap_eq_map, List.filterMap_filter]
  rfl

theorem armAll_offSchedule (s : State) (entries : List (Nat × Pair × Entry)) :
    (s.armAll entries).offSchedule = s.offSchedule :=
  foldl_keeps (f := fun u p => u.arm p.1 p.2.1 p.2.2) (fun u p => arm_offSchedule u p.1 p.2.1 p.2.2) entries s

theorem armAll_posted (s : State) (entries : List (Nat × Pair × Entry)) :
    (s.armAll entries).posted = (entries.map s.armedAs).foldl postOn s.posted := by
  induction entries generalizing s with
  | nil => rfl
  | cons p entries ih =>
    refine (ih (s.arm p.1 p.2.1 p.2.2)).trans ?_
    rw [armedAs_of_offSchedule (arm_offSchedule s p.1 p.2.1 p.2.2), arm_posted]
    rfl

theorem armAll_ownProposal (s : State) (entries : List (Nat × Pair × Entry)) (k : Nat) :
    (s.armAll entries).schedule.ownProposal = some k ↔
      s.schedule.ownProposal = some k ∧ ∀ p ∈ entries, k ≠ p.1 := by
  induction entries generalizing s with
  | nil => simp [armAll]
  | cons p entries ih =>
    refine (ih (s.arm p.1 p.2.1 p.2.2)).trans ?_
    rw [arm_ownProposal, List.forall_mem_cons, and_assoc]

theorem armAll_slot_other (s : State) {entries : List (Nat × Pair × Entry)} {k : Nat}
    (other : ∀ p ∈ entries, p.1 ≠ k) : (s.armAll entries).schedule.slots[k]? = s.schedule.slots[k]? := by
  induction entries generalizing s with
  | nil => rfl
  | cons p entries ih =>
    obtain ⟨first, others⟩ := List.forall_mem_cons.1 other
    refine (ih (s.arm p.1 p.2.1 p.2.2) others).trans ?_
    rw [arm_slots, List.getElem?_set_ne first]

theorem armAll_slot_armed (s : State) {entries : List (Nat × Pair × Entry)}
    (ascending : entries.Pairwise (fun p q => p.1 < q.1)) {h : Nat} {name : Pair} {e : Entry}
    (arms : (h, name, e) ∈ entries) (inside : h < s.schedule.slots.length) :
    (s.armAll entries).schedule.slots[h]? = some (some e.armedNow) := by
  induction entries generalizing s with
  | nil => cases arms
  | cons p entries ih =>
    obtain ⟨later, ascending⟩ := List.pairwise_cons.1 ascending
    obtain rfl | arms := List.mem_cons.1 arms
    · refine (armAll_slot_other (s.arm h name e) fun q hq => (later q hq).ne').trans ?_
      rw [arm_slots, List.getElem?_set_self inside]
    · exact ih (s.arm p.1 p.2.1 p.2.2) ascending arms (by rwa [arm_slots, List.length_set])

/-! ## The evaluation of every PENDING entry (R151) -/

/-- Arming touches its own slot alone and no evidence, so going through the slots arms what could arm at the start. -/
theorem foldl_evaluateSlot {handles : List Nat} (distinct : handles.Nodup) (s : State) :
    handles.foldl evaluateSlot s = s.armAll (s.armingIn handles) := by
  induction handles generalizing s with
  | nil => rfl
  | cons h handles ih =>
    obtain ⟨fresh, distinct⟩ := List.nodup_cons.1 distinct
    rw [List.foldl_cons, ih distinct]
    rw [armingIn_cons]
    by_cases arms : ∃ name e, s.holdsPending h name e ∧ s.evidenceFor name
    · obtain ⟨name, e, pending, evidence⟩ := arms
      have others : (s.arm h name e).armingIn handles = s.armingIn handles := by
        rw [armingIn, armingHolds_of_offSchedule (arm_offSchedule s h name e), pendingsIn_congr fun k listed => ?_]
        · rfl
        · have other : h ≠ k := fun same => fresh (same ▸ listed)
          exact pendingEntry_congr (by rw [arm_slots, List.getElem?_set_ne other])
      have first : s.armingIn [h] = [(h, name, e)] := by
        simp [armingIn, pendingsIn, pendingEntry_eq_some.2 pending, (armingHolds_iff s name).2 evidence]
      rw [evaluateSlot_arms pending evidence, others, first]
      rfl
    · have idle : ∀ name e, s.holdsPending h name e → ¬ s.evidenceFor name :=
        fun name e pending evidence => arms ⟨name, e, pending, evidence⟩
      have first : s.armingIn [h] = [] := by
        refine List.eq_nil_iff_forall_not_mem.2 fun ⟨k, name, e⟩ listed => ?_
        obtain ⟨same, pending, evidence⟩ := mem_armingIn.1 listed
        obtain rfl := List.mem_singleton.1 same
        exact idle name e pending evidence
      rw [evaluateSlot_idle idle, first, List.nil_append]

theorem evaluateArming_eq_armAll (s : State) : s.evaluateArming = s.armAll (s.armingIn (List.range 16)) :=
  foldl_evaluateSlot List.nodup_range s

/-- Every slot as an evaluation leaves it (R151, R153). -/
theorem evaluateArming_armsOnEvidence (s : State) (h : Nat) : s.armsOnEvidence s.evaluateArming h := by
  have evidence := evidenceFor_congr (evaluateArming_peers s) (offSchedule_straps (evaluateArming_offSchedule s))
  refine ⟨fun name e inRange pending holds => ?_, fun idle => ?_⟩
  · have arms := mem_armingIn.2 ⟨List.mem_range.2 inRange, pending, (evidence name).1 holds⟩
    obtain ⟨held, -, -⟩ := pending
    rw [evaluateArming_eq_armAll]
    exact s.armAll_slot_armed (s.armingIn_pairwise 16) arms (List.getElem?_eq_some_iff.1 held).1
  · rw [evaluateArming_eq_armAll]
    refine s.armAll_slot_other ?_
    rintro ⟨k, name, e⟩ listed rfl
    obtain ⟨inRange, pending, arms⟩ := mem_armingIn.1 listed
    rcases idle with outside | without
    · exact absurd (List.mem_range.1 inRange) outside.not_gt
    · exact without name e pending ((evidence name).2 arms)

/-- The own proposal ends where it is one of the entries that arm (R145). -/
theorem evaluateArming_ownProposal (s : State) (k : Nat) : s.evaluateArming.schedule.ownProposal = some k ↔
    s.schedule.ownProposal = some k ∧ ¬ (k < 16 ∧ ∃ name e, s.holdsPending k name e ∧ s.evidenceFor name) := by
  rw [evaluateArming_eq_armAll, armAll_ownProposal]
  refine and_congr_right fun _ => ⟨?_, ?_⟩
  · rintro other ⟨inRange, name, e, pending, evidence⟩
    exact other (k, name, e) (mem_armingIn.2 ⟨List.mem_range.2 inRange, pending, evidence⟩) rfl
  · rintro idle ⟨h, name, e⟩ listed rfl
    obtain ⟨inRange, pending, evidence⟩ := mem_armingIn.1 listed
    exact idle ⟨List.mem_range.1 inRange, name, e, pending, evidence⟩

/-- What an evaluation leaves, but for the slots and the own proposal: its records are posted, in ascending order of
handle (R153, R172). -/
theorem evaluateArming_eq {s t : State} (room : s.capture.queue.length ≤ 16) (evaluated : t = s.evaluateArming) :
    t = { s.withRecords s.armedRecords with
      schedule.slots := t.schedule.slots
      schedule.ownProposal := t.schedule.ownProposal } := by
  have off : t.offSchedule = s.offSchedule := evaluated ▸ evaluateArming_offSchedule s
  have beside : s.sameBeside t := evaluated ▸ evaluateArming_sameBeside s
  have posted : t.posted = s.armedRecords.foldl postOn s.posted := by
    rw [evaluated, evaluateArming_eq_armAll, armedRecords_eq, armAll_posted]
  rw [State.posted, State.posted, foldl_postOn _ _ _ room] at posted
  obtain ⟨capture, overflow⟩ := Prod.mk.inj posted
  obtain ⟨-, -, -, lines, declined, tagCounter, -⟩ := beside
  have schedule : t.schedule =
      { s.schedule with slots := t.schedule.slots, ownProposal := t.schedule.ownProposal } := by
    simp only [← lines, ← declined, ← tagCounter]
  exact eq_of_offSchedule off ⟨schedule, capture, overflow⟩

/-! ## The deadline (R156) -/

theorem inSet_missingFor (s : State) (name : Pair) {m : Nat} (inRange : m < 32) :
    inSet (s.missingFor name) m = true ↔ (∃ q, s.peers[m]? = some q ∧ q.state = .member ∧ name ∉ q.held) ∨
      (m = name.proposer ∧ name.proposer ≠ ownNumber s.straps ∧ ¬ s.memberAt name.proposer) := by
  rw [missingFor, inSet_stationsWhere _ inRange, Bool.or_eq_true]
  refine or_congr ?_ ?_
  · unfold peer
    cases s.peers[m]? <;> simp
  · simp [own, ← isMember_iff, and_assoc]

theorem abandon_eq (s : State) (h : Nat) (name : Pair) (e : Entry) (reason : AbandonReason) (missing : StationSet) :
    s.abandon h name e reason missing = ({ s with
      schedule.slots := s.schedule.slots.set h none
      schedule.ownProposal := if s.schedule.ownProposal = some h then none else s.schedule.ownProposal } : State).post
        (.abandoned h name (stampOf s.straps e.nextFire) reason missing) := by
  rw [abandon, endProposal_eq]
  rfl

theorem deadlineIfDue_abandons {s : State} {h : Nat} {name : Pair} {e : Entry} (pending : s.holdsPending h name e)
    (due : e.deadline = some s.now) : s.deadlineIfDue h = s.abandon h name e .deadline (s.missingFor name) := by
  simp [deadlineIfDue, pendingEntry_eq_some.2 pending, due]

theorem deadlineIfDue_stands {s : State} {h : Nat}
    (notDue : ∀ name e, s.holdsPending h name e → e.deadline ≠ some s.now) : s.deadlineIfDue h = s := by
  unfold deadlineIfDue
  split
  · exact if_neg (notDue _ _ (pendingEntry_eq_some.1 ‹_›))
  · rfl

end State

theorem exec_sharedDeadline {s : State} (running : s.port.starting = none) (h : Fin 16) :
    exec (.sharedDeadline h) s = .next (s.deadlineIfDue h) :=
  congrArg Host.Outcome.next (if_pos (State.running_of_not_starting running))

/-- Settles O44: one evaluation arms by its evidence, the evaluation of all is one after another of what can arm, and
the deadline abandons. -/
theorem pendingEntriesArmOrAreAbandoned : Obligations.PendingEntriesArmOrAreAbandoned := by
  refine ⟨fun s h name e pending => ⟨fun without => ?_, fun evidence => ⟨s.memberView, fun m inRange =>
    s.inSet_memberView inRange, ?_⟩⟩, State.armingHolds_iff, ?_, fun s h running => ?_⟩
  · refine State.evaluateSlot_idle fun name' e' pending' => ?_
    rwa [State.holdsPending_name pending' pending]
  · rw [State.evaluateSlot_arms pending evidence, State.arm_eq]
    rfl
  · intro s t room evaluated
    have proposal : ∀ k, t.schedule.ownProposal = some k ↔ s.schedule.ownProposal = some k ∧
        ¬ (k < 16 ∧ ∃ name e, s.holdsPending k name e ∧ s.evidenceFor name) :=
      evaluated ▸ s.evaluateArming_ownProposal
    refine ⟨State.evaluateArming_eq room evaluated, evaluated ▸ s.evaluateArming_armsOnEvidence,
      fun armed arms => ⟨fun h own armed => ?_, fun stands => ?_⟩⟩
    · refine Option.eq_none_iff_forall_ne_some.2 fun k proposed => ?_
      obtain ⟨stood, idle⟩ := (proposal k).1 proposed
      obtain rfl : h = k := Option.some.inj (own.symm.trans stood)
      exact idle ((arms h).1 armed)
    · exact Option.ext fun k => (proposal k).trans (and_iff_left_of_imp fun own => mt (arms k).2 (stands k own))
  · rw [exec_sharedDeadline running]
    refine ⟨fun notDue => congrArg _ (State.deadlineIfDue_stands notDue), fun name e pending due =>
      ⟨s.missingFor name, fun m inRange => s.inSet_missingFor name inRange, ?_⟩⟩
    rw [State.deadlineIfDue_abandons pending due, State.abandon_eq]

end Sys2Proof.Machine
end

section
/-!
PROPOSE: its checks in their order, the tag that it draws, and the PENDING entry that it makes (R142 to R144, R151).
-/
namespace Sys2Proof.Machine

/-! ## Names in the schedule (R140) -/

theorem Entry.isNamed_iff (e : Entry) (name : Pair) : e.isNamed name = true ↔ e.kind = .shared name := by
  cases kind : e.kind <;> simp [Entry.isNamed, kind]

theorem State.holdsPair_iff (s : State) (name : Pair) :
    s.holdsPair name = true ↔ ∃ h e, h < 16 ∧ s.holds h e ∧ e.kind = .shared name := by
  simp only [State.holdsPair, List.any_eq_true, Prod.exists, State.mem_handled, Entry.isNamed_iff, and_assoc]

/-! ## The tag (R143) -/

theorem cyclicTag_zero {counter : Nat} (first : 1 ≤ counter) (last : counter ≤ 255) :
    cyclicTag counter 0 = counter := by
  unfold cyclicTag
  omega

theorem tagAfter_cyclicTag (counter n : Nat) : tagAfter (cyclicTag counter n) = cyclicTag counter (n + 1) := by
  unfold tagAfter cyclicTag
  split <;> omega

namespace State

theorem tagFree_iff (s : State) (tag : Nat) : s.tagFree tag = true ↔ s.isFreeTag tag := by
  rw [tagFree, Bool.and_eq_true, Bool.not_eq_true', Bool.eq_false_iff, ne_eq, holdsPair_iff]
  refine and_congr ?_ (by simp [own])
  simp only [not_exists, not_and, own]

/-- Trying the tags one after another from a place in the cyclic order stops at the first that is free. -/
theorem drawTagFrom_first {s : State} {counter n : Nat} {fuel k : Nat} (enough : n < fuel)
    (free : s.isFreeTag (cyclicTag counter (k + n))) (taken : ∀ m, m < n → ¬ s.isFreeTag (cyclicTag counter (k + m))) :
    s.drawTagFrom fuel (cyclicTag counter k) = cyclicTag counter (k + n) := by
  induction n generalizing fuel k with
  | zero =>
    obtain ⟨fuel, rfl⟩ := Nat.exists_eq_succ_of_ne_zero enough.ne'
    exact if_pos ((s.tagFree_iff _).2 free)
  | succ n ih =>
    obtain ⟨fuel, rfl⟩ := Nat.exists_eq_succ_of_ne_zero (Nat.zero_lt_of_lt enough).ne'
    have first : ¬ s.tagFree (cyclicTag counter k) = true := mt (s.tagFree_iff _).1 (taken 0 n.succ_pos)
    have next : k + 1 + n = k + (n + 1) := by omega
    rw [drawTagFrom, if_neg first, tagAfter_cyclicTag, ih (Nat.lt_of_succ_lt_succ enough) (next ▸ free)
      fun m before => ?_, next]
    have shifted : k + 1 + m = k + (m + 1) := by omega
    exact shifted ▸ taken (m + 1) (Nat.succ_lt_succ before)

theorem drawTag_eq {s : State} {n : Nat} (enough : n < 255) (first : 1 ≤ s.schedule.tagCounter)
    (last : s.schedule.tagCounter ≤ 255) (free : s.isFreeTag (cyclicTag s.schedule.tagCounter n))
    (taken : ∀ m, m < n → ¬ s.isFreeTag (cyclicTag s.schedule.tagCounter m)) :
    s.drawTag = cyclicTag s.schedule.tagCounter n := by
  have drawn := drawTagFrom_first (k := 0) enough (by simpa using free) (by simpa using taken)
  rwa [cyclicTag_zero first last, Nat.zero_add] at drawn

/-! ## The checks (R142) -/

theorem proposeAnswer_unnamed {s : State} {p : TriggerParams} (unnamed : 16 ≤ p.lines.toNat) :
    s.proposeAnswer p = refusal s .invalid := by
  have noLines : lineSetOf p.lines = none := if_neg unnamed.not_gt
  rw [proposeAnswer, noLines]

/-- The target epoch of a command whose position lies within an epoch (R40, R142). -/
theorem targetOf_epoch {s : State} {p : TriggerParams} (inEpoch : p.targetPosition.toNat < epochLength s.straps) :
    s.targetOf p / epochLength s.straps = s.targetEpochOf p := by
  have epoch : s.targetOf p = s.targetEpochOf p * epochLength s.straps + p.targetPosition.toNat := rfl
  rw [epoch, Nat.mul_comm, Nat.mul_add_div (Nat.zero_lt_of_lt inEpoch), Nat.div_eq_of_lt inEpoch, Nat.add_zero]

section
variable {s : State} {p : TriggerParams} (lines : p.lines.toNat < 16)
include lines

theorem proposeAnswer_outside (outside : s.sync.state ≠ .track) : s.proposeAnswer p = refusal s .state := by
  simp only [proposeAnswer, lineSetOf, lines, outside, if_true, ne_eq, not_false_eq_true]

theorem proposeAnswer_busy (track : s.sync.state = .track) (busy : s.schedule.ownProposal ≠ none) :
    s.proposeAnswer p = refusal s .busyProposal := by
  simp only [proposeAnswer, lineSetOf, lines, track, Option.isSome_iff_ne_none.2 busy, if_true, ne_eq,
    not_true_eq_false, if_false]

variable (track : s.sync.state = .track) (idle : s.schedule.ownProposal = none)
include track idle

theorem proposeAnswer_full (full : s.freeSlot = none ∨ 4 ≤ s.heldCount) : s.proposeAnswer p = refusal s .full := by
  simp only [proposeAnswer, lineSetOf, lines, track, idle, if_true, ne_eq, not_true_eq_false, if_false,
    Option.isSome_none, Bool.false_eq_true]
  split
  · rfl
  · rename_i h free
    exact if_pos (full.resolve_left (by simp [free]))

theorem proposeAnswer_slot {h : Nat} (free : s.freeSlot = some h) (room : s.heldCount < 4) : s.proposeAnswer p =
    if s.targetEpochOf p < s.now / epochLength s.straps + 8 ∨
        s.now / epochLength s.straps + 65535 < s.targetEpochOf p ∨ ¬ s.paramsInRange p then refusal s .invalid
    else answerOk (s.makeProposal h p (BitVec.ofNat 4 p.lines.toNat)) (.handleTag h s.drawTag) := by
  have epoch : s.currentEpoch = s.now / epochLength s.straps := rfl
  simp only [proposeAnswer, lineSetOf, lines, track, idle, free, room.not_ge, if_true, ne_eq, not_true_eq_false,
    if_false, Option.isSome_none, Bool.false_eq_true, ← triggerRangesHold_iff lines, Bool.not_eq_true', Bool.not_eq_true,
    epoch, ite_or]

end

/-- An accepted PROPOSE makes the own proposal, PENDING in the slot, and evaluates its arming (R144, R151). -/
theorem makeProposal_eq (s : State) (h : Nat) (p : TriggerParams) (lines : LineSet) {tag : Nat}
    (draws : s.drawTag = tag) : s.makeProposal h p lines = ({ s with
      schedule.slots := s.schedule.slots.set h (some
        { kind := .shared ⟨ownNumber s.straps, tag⟩, state := .pending, nextFire := s.targetOf p,
          width := p.width.toNat, lines := lines, period := p.period.toNat, initialRepeats := p.repeats.toNat,
          remaining := p.repeats.toNat, fired := 0, skipped := 0, reportFires := true,
          deadline := some (s.targetOf p - 2 * epochLength s.straps), heldFlag := true })
      schedule.ownProposal := some h
      schedule.tagCounter := tagAfter tag } : State).evaluateSlot h := by
  subst draws
  rfl

end State

theorem exec_propose {s after : State} {p : TriggerParams} {code : ResponseCode} {body : ResponseBody}
    (takes : s.takes = true) (answers : s.proposeAnswer p = ⟨after, code, body⟩)
    (serial : after.port.serial = s.port.serial) : exec (.propose p) s = .next (after.answered 0x41 14 code body) :=
  congrArg Host.Outcome.next (State.command_answers takes rfl answers serial)

/-- Settles O23: the checks one after another; past them all the first free tag names the entry in the lowest free
slot. -/
theorem proposeMakesAPendingEntry : Obligations.ProposeMakesAPendingEntry := by
  intro s p takes size
  refine ⟨fun unnamed => exec_propose takes (State.proposeAnswer_unnamed unnamed) rfl, fun lines =>
    ⟨fun outside => exec_propose takes (State.proposeAnswer_outside lines outside) rfl, fun track =>
    ⟨fun busy => exec_propose takes (State.proposeAnswer_busy lines track busy) rfl, fun idle =>
    ⟨fun full => exec_propose takes (State.proposeAnswer_full lines track idle
      (full.imp_left (State.freeSlot_of_full size))) rfl, fun h lowest room => ?_⟩⟩⟩⟩
  have answer := State.proposeAnswer_slot lines track idle (State.freeSlot_of_isLowestFree size lowest) room
  refine ⟨fun wrong inEpoch => ?_, fun beyond => ?_, fun early late ranges n enough first last free taken => ?_⟩
  · rw [State.targetOf_epoch inEpoch] at wrong
    rw [if_pos wrong] at answer
    exact exec_propose takes answer rfl
  · rw [if_pos (.inr (.inr fun ranges => beyond.not_gt ranges.1))] at answer
    exact exec_propose takes answer rfl
  · have draws := State.drawTag_eq enough first last free taken
    rw [State.targetOf_epoch ranges.1] at early late
    rw [if_neg (by rw [not_or, not_or]; exact ⟨early.not_gt, late.not_gt, not_not_intro ranges⟩),
      State.makeProposal_eq s h p _ draws, tagAfter_cyclicTag, draws] at answer
    exact exec_propose takes answer (congrArg (·.port.serial) (State.evaluateSlot_offSchedule _ h))

end Sys2Proof.Machine
end

section
/-!
The offer of an arrival: when it is taken up, the PENDING entry that it makes, and the evaluation of arming after it
(R148, R149, R151).
-/
namespace Sys2Proof.Machine
namespace State

/-! ## A free slot (R118) -/

/-- Among the slots there are, the one that a command takes is the lowest that is free. -/
theorem freeSlot_iff {s : State} {h : Nat} (inside : h < s.schedule.slots.length) :
    s.freeSlot = some h ↔ s.isLowestFree h := by
  have free : ∀ j, j ≤ h → (s.entry j = none ↔ s.schedule.slots[j]? = some none) := by
    intro j below
    have there : j < s.schedule.slots.length := below.trans_lt inside
    simp [entry, List.getElem?_eq_getElem there]
  rw [freeSlot_eq_some, isLowestFree, free h le_rfl]
  exact and_congr_right fun _ => and_congr_right fun _ => forall₂_congr fun j below => not_congr (free j below.le)

/-! ## An offer (R148, R149, R161) -/

theorem isDeclined_iff (s : State) (name : Pair) :
    s.isDeclined name = true ↔ ∃ d ∈ s.schedule.declined, d.name = name := by
  simp [isDeclined]

/-- What R148 and R149 ask for, beside a free slot, before the offer of station p is taken up. -/
def takesUp (s : State) (p : Nat) (o : Offer) : Prop :=
  s.memberAt p ∧ (s.sync.state = .track ∨ s.sync.state = .holdover) ∧
    (∀ (k : Nat) (x : Entry), k < 16 → s.holds k x → x.kind ≠ .shared ⟨p, o.tag⟩) ∧
    (∀ d ∈ s.schedule.declined, d.name ≠ ⟨p, o.tag⟩) ∧ s.heldCount < 4 ∧
    s.now / epochLength s.straps + 3 ≤ o.targetEpoch

/-- The entry that an offer of station p makes (R149). -/
def offered (s : State) (p : Nat) (o : Offer) : Entry :=
  s.newShared ⟨p, o.tag⟩ (o.targetEpoch * s.epochLen + o.targetPosition) o.width o.lines o.period o.repeats

/-- The checks of the model are those of R148 and R149. -/
theorem takesUp_iff (s : State) (p : Nat) (o : Offer) :
    (s.isMember p && s.sync.state.agrees && !(s.holdsPair ⟨p, o.tag⟩) && !(s.isDeclined ⟨p, o.tag⟩)
      && decide (s.heldCount < 4) && decide (s.currentEpoch + 3 ≤ o.targetEpoch)) = true ↔ s.takesUp p o := by
  have unheld : (!(s.holdsPair ⟨p, o.tag⟩)) = true ↔
      ∀ (k : Nat) (x : Entry), k < 16 → s.holds k x → x.kind ≠ .shared ⟨p, o.tag⟩ := by
    rw [Bool.not_eq_true', Bool.eq_false_iff, ne_eq, holdsPair_iff]
    simp only [not_exists, not_and, ne_eq]
  have undeclined : (!(s.isDeclined ⟨p, o.tag⟩)) = true ↔ ∀ d ∈ s.schedule.declined, d.name ≠ ⟨p, o.tag⟩ := by
    rw [Bool.not_eq_true', Bool.eq_false_iff, ne_eq, isDeclined_iff]
    simp only [not_exists, not_and, ne_eq]
  simp only [Bool.and_eq_true, isMember_iff, StationState.agrees_iff, unheld, undeclined, decide_eq_true_eq, and_assoc]
  rfl

theorem takeOffer_up {s : State} {p h : Nat} {o : Offer} (lowest : s.isLowestFree h) (up : s.takesUp p o) :
    s.takeOffer p o = s.setSlot h (some (s.offered p o)) := by
  have inside : h < s.schedule.slots.length := by
    obtain ⟨-, free, -⟩ := lowest
    exact (List.getElem?_eq_some_iff.1 free).1
  have slot : s.freeSlot = some h := (freeSlot_iff inside).2 lowest
  rw [takeOffer, slot]
  exact if_pos ((s.takesUp_iff p o).2 up)

/-- An offer without a free slot, or that R148 or R149 shuts out, makes no entry. -/
theorem takeOffer_passed {s : State} {p : Nat} {o : Offer} (passed : ∀ h, ¬ (s.isLowestFree h ∧ s.takesUp p o)) :
    s.takeOffer p o = s := by
  unfold takeOffer
  split
  · rename_i h slot
    by_cases inside : h < s.schedule.slots.length
    · exact if_neg fun up => passed h ⟨(freeSlot_iff inside).1 slot, (s.takesUp_iff p o).1 up⟩
    · have kept : ∀ x, s.setSlot h x = s := fun x => by
        rw [setSlot, List.set_eq_of_length_le (Nat.le_of_not_lt inside)]
      simp only [kept, ite_self]
  · rfl

theorem beaconNotice_some (s : State) (p : Nat) (o : Offer) :
    s.beaconNotice p (some o) = (s.takeOffer p o).evaluateArming := rfl

/-! ## The evaluation after it (R151) -/

/-- What an evaluation does at a slot depends on that slot and the evidence alone. -/
theorem armsOnEvidence_congr {s s' t t' : State} {k : Nat} (slot : s'.schedule.slots[k]? = s.schedule.slots[k]?)
    (after : t'.schedule.slots[k]? = t.schedule.slots[k]?)
    (evidence : ∀ name, t'.evidenceFor name ↔ t.evidenceFor name) (arms : s.armsOnEvidence t k) :
    s'.armsOnEvidence t' k := by
  simpa only [armsOnEvidence, holdsPending, holds, slot, after, evidence] using arms

theorem agreesAlike.trans {t u v : State} (first : t.agreesAlike u) (second : u.agreesAlike v) : t.agreesAlike v :=
  ⟨first.1.trans second.1, first.2.trans second.2⟩

/-- Isolation leaves the schedule, the peer table and the straps (R103). -/
theorem isolationCheck_agreesAlike (s : State) (old : PeerState) : (s.isolationCheck old).agreesAlike s := by
  rw [isolationCheck_eq]
  exact ⟨⟨⟨rfl, rfl, rfl⟩, rfl⟩, rfl⟩

/-- The end of the first good beacon of its sender, which is not LEAVING: the arrival moves the link engine, the peer
table and MEMBERSHIP, its offer goes to the agreement logic with its epoch resolved, and isolation may follow (R16, R49,
R51, R56, R103). -/
theorem exec_frameEnd_arrival {s : State} {bits : List Bool} {r : Reception} {b : Beacon} {e : Peer}
    (running : s.port.starting = none) (transmits : s.transmitting = true) (valid : strapsValid s.straps = true)
    (reception : s.link.reception = some r) (crc : crcPasses bits = true)
    (beacon : validBeacon s.straps bits = some b) (other : b.sender ≠ ownNumber s.straps)
    (mark : s.markInInterval b.sender r.correctedMark) (epoch : resolveEpoch b.epoch s.windowEpoch = s.windowEpoch)
    (unheard : inSet s.link.heard b.sender = false) (entry : s.peers[b.sender]? = some e) (notSelf : e.state ≠ .self)
    (stays : b.state ≠ .leaving) :
    ∃ (l : Link) (table : List Peer) (membership : Bool), exec (.frameEnd bits false) s = .next
      ((({ s with link := l, peers := table, port.alerts.membership := membership } : State).beaconNotice b.sender
        (b.offer.map fun o => { o with targetEpoch := resolveEpoch o.targetEpoch s.windowEpoch })).isolationCheck
          e.state) := by
  have inside := (markInInterval_iff valid).1 mark
  obtain ⟨u, hu⟩ : ∃ u : State, u = ({ s.frameEnded (idleAfter bits false) with
      link.heard := addTo s.link.heard b.sender } : State) := ⟨_, rfl⟩
  obtain ⟨e', after⟩ : ∃ e', e' = e.afterArrival u.port.config b
      (leadOf s.straps s.windowEpoch b.sender r.correctedMark) u.windowEpoch (u.viewTest e b) := ⟨_, rfl⟩
  have delivered : (s.frameEnded (idleAfter bits false)).deliverGood b r.correctedMark
      = u.arrival b.sender (leadOf s.straps s.windowEpoch b.sender r.correctedMark) b := by
    rw [hu]
    exact deliverGood_first (s := s.frameEnded (idleAfter bits false)) unheard _
  have held : u.peers[b.sender]? = some e := by rw [hu]; exact entry
  have offer : e'.offer = b.offer.map fun o => { o with targetEpoch := resolveEpoch o.targetEpoch u.windowEpoch } := by
    obtain ⟨-, -, -, -, -, -, offer, -⟩ := Peer.afterArrival_arrivesAs notSelf u.port.config b
      (leadOf s.straps s.windowEpoch b.sender r.correctedMark) u.windowEpoch (u.viewTest e b)
    rw [after, offer]
  rw [exec_frameEnd running, endFrame_transmitting reception transmits,
    judgeFrame_good (s := s.frameEnded (idleAfter bits false)) crc beacon other inside epoch, delivered,
    arrival_eq held notSelf stays after, offer, hu]
  exact ⟨_, _, _, rfl⟩

end State

/-- Settles O33: the arrival hands the offer to `takeOffer`, and the evaluation of all follows it. -/
theorem offersBecomePendingEntries : Obligations.OffersBecomePendingEntries := by
  intro s t bits r b e o n epoch target name running transmits valid reception crc beacon other mark n_eq resolves
    unheard entry notSelf stays offer epoch_eq target_eq name_eq run taken taken_iff
  subst n_eq
  obtain ⟨l, table, membership, row⟩ := State.exec_frameEnd_arrival running transmits valid reception crc beacon other
    mark resolves unheard entry notSelf stays
  obtain ⟨v, hv⟩ : ∃ v : State, v = { s with link := l, peers := table, port.alerts.membership := membership } :=
    ⟨_, rfl⟩
  obtain ⟨sent, hsent⟩ : ∃ sent : Offer, sent = { o with targetEpoch := epoch } := ⟨_, rfl⟩
  have result : t = ((v.takeOffer b.sender sent).evaluateArming).isolationCheck e.state := by
    rw [row, offer] at run
    rw [← State.beaconNotice_some, hv, hsent, epoch_eq]
    exact (Host.Outcome.next.inj run).symm
  obtain ⟨w, hw⟩ : ∃ w, w = v.takeOffer b.sender sent := ⟨_, rfl⟩
  have alike : t.agreesAlike w.evaluateArming := by
    rw [result, ← hw]
    exact State.isolationCheck_agreesAlike _ _
  have peers : w.peers = t.peers := (State.evaluateArming_peers w).symm.trans alike.2.symm
  have same : w.peers = v.peers := hw ▸ State.offSchedule_peers (State.takeOffer_offSchedule v b.sender sent)
  have arms : ∀ k, w.armsOnEvidence t k := fun k =>
    State.armsOnEvidence_congr rfl (by rw [alike.1.schedule]) (State.evidenceFor_congr alike.2 alike.1.2)
      (w.evaluateArming_armsOnEvidence k)
  have taken_up : ∀ h, taken h ↔ v.isLowestFree h ∧ v.takesUp b.sender sent := by
    have members : t.memberAt b.sender ↔ v.memberAt b.sender := by
      simp only [State.memberAt, ← peers, same]
    intro h
    rw [taken_iff, members, hv, hsent, name_eq]
    exact ⟨fun ⟨member, agrees, held, declined, lowest, room, later⟩ =>
        ⟨lowest, member, agrees, held, declined, room, later⟩,
      fun ⟨lowest, member, agrees, held, declined, room, later⟩ =>
        ⟨member, agrees, held, declined, lowest, room, later⟩⟩
  refine ⟨fun h takes x made => ?_, fun passes => ?_⟩
  · obtain ⟨lowest, up⟩ := (taken_up h).1 takes
    have entry_eq : v.offered b.sender sent = x := by
      rw [made, hsent, name_eq, target_eq, hv]
      rfl
    rw [State.takeOffer_up lowest up, entry_eq] at hw
    have slots : w.schedule.slots = s.schedule.slots.set h (some x) := by rw [hw, hv]; rfl
    have holds : w.holdsPending h name x := by
      obtain ⟨-, free, -⟩ := lowest
      rw [hv] at free
      refine ⟨?_, by rw [made], by rw [made]⟩
      rw [State.holds, slots, List.getElem?_set_self (List.getElem?_eq_some_iff.1 free).1]
    refine ⟨fun evidence => ?_, fun without => ?_, fun k other => ?_, ?_⟩
    · obtain ⟨inRange, -⟩ := lowest
      exact (arms h).1 name x inRange holds evidence
    · refine ((arms h).2 (.inr fun name' e' pending => ?_)).trans holds.1
      rwa [State.holdsPending_name pending holds]
    · exact State.armsOnEvidence_congr (by rw [slots, List.getElem?_set_ne (Ne.symm other)]) rfl (fun _ => Iff.rfl)
        (arms k)
    · have start : w.agreesAlike
          { s with peers := t.peers, schedule.slots := s.schedule.slots.set h (some x) } := by
        rw [← peers, hw, hv]
        exact ⟨⟨⟨rfl, rfl, rfl⟩, rfl⟩, rfl⟩
      exact (alike.trans (State.evaluateArming_agreesAlike start)).sameSchedule
  · rw [State.takeOffer_passed fun h up => passes h ((taken_up h).2 up)] at hw
    refine ⟨fun k => State.armsOnEvidence_congr (by rw [hw, hv]) rfl (fun _ => Iff.rfl) (arms k), ?_⟩
    have start : w.agreesAlike { s with peers := t.peers } := by
      rw [← peers, hw, hv]
      exact ⟨⟨⟨rfl, rfl, rfl⟩, rfl⟩, rfl⟩
    exact (alike.trans (State.evaluateArming_agreesAlike start)).sameSchedule

end Sys2Proof.Machine
end

section
/-!
Which SHARED entries an operation arms (R152). The relation says for which names entries may have become ARMED, so it is
a preorder: every operation but the evaluation of arming arms for no name, and that one arms on the evidence that the
state it leaves still shows.
-/
namespace Sys2Proof.Machine

/-! ## A firing keeps the name (R123, R130) -/

theorem Entry.afterFire_kind {epoch : Nat} {e e' : Entry} (stands : e.afterFire epoch = some e') :
    e'.kind = e.kind := by
  unfold Entry.afterFire at stands
  split at stands
  · cases stands
  · cases stands
    rfl

theorem Entry.afterLateFire_kind {epoch b : Nat} {e e' : Entry} (stands : e.afterLateFire epoch b = some e') :
    e'.kind = e.kind := by
  unfold Entry.afterLateFire at stands
  simp only [] at stands
  split at stands
  · cases stands
  · cases stands
    rfl

namespace State

/-! ## The relation -/

/-- A SHARED entry of this name stands ARMED in the slot. -/
def holdsArmed (s : State) (h : Nat) (name : Pair) : Prop :=
  ∃ e, s.holds h e ∧ e.kind = .shared name ∧ e.state = .armed

/-- From s to t SHARED entries become ARMED for the allowed names alone. -/
def ArmsOnly (allowed : Pair → Prop) (s t : State) : Prop :=
  ∀ h name, t.holdsArmed h name → s.holdsArmed h name ∨ allowed name

/-- From s to t SHARED entries become ARMED on evidence alone that t shows (R152). -/
def ArmsByEvidence (s t : State) : Prop := ArmsOnly t.evidenceFor s t

namespace ArmsOnly
variable {allowed : Pair → Prop} {s t u : State}

theorem refl (s : State) : ArmsOnly allowed s s := fun _ _ => .inl

theorem trans (first : ArmsOnly allowed s t) (second : ArmsOnly allowed t u) : ArmsOnly allowed s u :=
  fun h name found => (second h name found).elim (first h name) .inr

theorem of_slots (slots : t.schedule.slots = s.schedule.slots) : ArmsOnly allowed s t := by
  intro h name found
  exact .inl (by simpa only [holdsArmed, holds, slots] using found)

theorem foldl {β : Type} {f : State → β → State} (turn : ∀ (s : State) (x : β), ArmsOnly allowed s (f s x)) (l : List β)
    (s : State) : ArmsOnly allowed s (l.foldl f s) :=
  foldl_invariant (fun u x hu => trans hu (turn u x)) l s (refl s)

theorem ite {p : Prop} [Decidable p] (first : ArmsOnly allowed s t) (second : ArmsOnly allowed s u) :
    ArmsOnly allowed s (if p then t else u) :=
  iteInduction (motive := ArmsOnly allowed s) (fun _ => first) fun _ => second

/-- One slot is replaced: what stands ARMED in it by then did so before, or is allowed. -/
theorem of_slot {h : Nat} {x : Option Entry} (slots : t.schedule.slots = s.schedule.slots.set h x)
    (new : ∀ e name, x = some e → e.kind = .shared name → e.state = .armed → s.holdsArmed h name ∨ allowed name) :
    ArmsOnly allowed s t := by
  rintro k name ⟨e, held, kind, armed⟩
  rw [holds, slots, List.getElem?_set] at held
  split_ifs at held with same inside
  · exact same ▸ new e name (Option.some.inj held) kind armed
  · exact .inl ⟨e, held, kind, armed⟩

theorem of_freed {h : Nat} (slots : t.schedule.slots = s.schedule.slots.set h none) : ArmsOnly allowed s t :=
  of_slot slots fun _ _ none_new => nomatch none_new

theorem of_start (started : t.schedule = Schedule.start) : ArmsOnly allowed s t :=
  fun h _ ⟨e, held, _⟩ => absurd held (start_holds_none started h e)

end ArmsOnly

theorem ArmsByEvidence.ite {s t u : State} {p : Prop} [Decidable p] (first : s.ArmsByEvidence t)
    (second : s.ArmsByEvidence u) : s.ArmsByEvidence (if p then t else u) :=
  iteInduction (motive := s.ArmsByEvidence) (fun _ => first) fun _ => second

/-- What changes no slot, no peer and no strap is no matter. -/
theorem ArmsByEvidence.then_same {s t u : State} (arms : s.ArmsByEvidence t)
    (slots : u.schedule.slots = t.schedule.slots) (peers : u.peers = t.peers)
    (straps : u.port.straps = t.port.straps) : s.ArmsByEvidence u := by
  have evidence : u.evidenceFor = t.evidenceFor := funext fun name => propext (evidenceFor_congr peers straps name)
  unfold ArmsByEvidence
  rw [evidence]
  exact arms.trans (.of_slots slots)

/-! ## The schedule's own events that arm nothing -/

section
variable {allowed : Pair → Prop}

theorem fireAs_armsOnly {s : State} {h : Nat} {e : Entry} (held : s.holds h e) (armed : e.state = .armed)
    {after : Option Entry} (kind : ∀ e', after = some e' → e'.kind = e.kind) (late : Bool) (k : Nat) :
    ArmsOnly allowed s (s.fireAs h e after late k) :=
  .of_slot (by rw [fireAs_schedule]; rfl) fun e' _ stands shared _ =>
    .inl ⟨e, held, (kind e' stands).symm.trans shared, armed⟩

theorem fireIfDue_armsOnly (s : State) (h : Nat) : ArmsOnly allowed s (s.fireIfDue h) := by
  unfold fireIfDue
  split
  · rename_i e held
    split
    · rename_i due
      exact fireAs_armsOnly (entry_eq_some.1 held) due.1 (fun _ => Entry.afterFire_kind) _ _
    · exact .refl s
  · exact .refl s

theorem lateFireIfPassed_armsOnly (a b : Nat) (s : State) (h : Nat) :
    ArmsOnly allowed s (lateFireIfPassed a b s h) := by
  unfold lateFireIfPassed
  split
  · rename_i e held
    split
    · rename_i passed
      exact fireAs_armsOnly (entry_eq_some.1 held) passed.1 (fun _ => Entry.afterLateFire_kind) _ _
    · exact .refl s
  · exact .refl s

theorem takeReached_armsOnly (s : State) : ArmsOnly allowed s s.takeReached :=
  have fired : ArmsOnly allowed s s.takeFirings := .foldl fireIfDue_armsOnly _ s
  fired.trans (.of_slots (takeExpiries_schedule_slots _))

theorem jumpSchedule_armsOnly (s : State) (a b : Nat) : ArmsOnly allowed s (s.jumpSchedule a b) :=
  have fired : ArmsOnly allowed s ((List.range 16).foldl (lateFireIfPassed a b) s) :=
    .foldl (lateFireIfPassed_armsOnly a b) _ s
  have declined : ∀ (u : State) (d : List Declined), ArmsOnly allowed u { u with schedule.declined := d } :=
    fun _ _ => .of_slots rfl
  .ite (fired.trans (declined _ _)) (.refl s)

theorem abandon_armsOnly (s : State) (h : Nat) (name : Pair) (e : Entry) (r : AbandonReason) (m : StationSet) :
    ArmsOnly allowed s (s.abandon h name e r m) :=
  .of_freed (h := h) (by simp [abandon])

theorem abandonPending_armsOnly (s : State) : ArmsOnly allowed s s.abandonPending := by
  refine .foldl (fun u h => ?_) _ s
  unfold abandonSlot
  split
  · exact abandon_armsOnly _ _ _ _ _ _
  · exact .refl u

theorem deadlineIfDue_armsOnly (s : State) (h : Nat) : ArmsOnly allowed s (s.deadlineIfDue h) := by
  unfold deadlineIfDue
  split
  · exact .ite (abandon_armsOnly _ _ _ _ _ _) (.refl s)
  · exact .refl s

/-- An offer that is taken up makes a PENDING entry (R149). -/
theorem takeOffer_armsOnly (s : State) (p : Nat) (o : Offer) : ArmsOnly allowed s (s.takeOffer p o) := by
  by_cases up : ∃ h, s.isLowestFree h ∧ s.takesUp p o
  · obtain ⟨h, lowest, up⟩ := up
    rw [takeOffer_up lowest up]
    refine .of_slot (h := h) (x := some (s.offered p o)) rfl fun e _ made _ armed => ?_
    cases made
    cases armed
  · rw [takeOffer_passed fun h taken => up ⟨h, taken⟩]
    exact .refl s

/-! ## State changes (R91) -/

theorem enter_armsOnly (s : State) (new : StationState) (cause : Cause) : ArmsOnly allowed s (s.enter new cause) := by
  have left : ArmsOnly allowed s (s.leftFor new) := .ite (abandonPending_armsOnly s) (.refl s)
  rw [enter_eq cause rfl]
  exact left.trans (.of_slots rfl)

theorem acceptJoin_armsOnly (s : State) : ArmsOnly allowed s s.acceptJoin :=
  enter_armsOnly { s with port.frozen := true, sync.holdLeft := false, sync.alignSources := 0 } .listen .joined

theorem joinUnasked_armsOnly (s : State) : ArmsOnly allowed s s.joinUnasked := by
  unfold joinUnasked
  split
  · exact acceptJoin_armsOnly s
  · exact .refl s

theorem changeState_armsOnly (s : State) (new : StationState) (cause : Cause) :
    ArmsOnly allowed s (s.changeState new cause) :=
  have entered := enter_armsOnly s new cause
  .ite (entered.trans (joinUnasked_armsOnly _)) entered

theorem leaveSecurely_armsOnly (s : State) (cause : Cause) : ArmsOnly allowed s (s.leaveSecurely cause) := by
  unfold leaveSecurely
  split
  case h_1 | h_2 | h_3 | h_4 => exact changeState_armsOnly _ _ _
  all_goals exact .refl s

theorem leaveFast_armsOnly (s : State) (cause : Cause) : ArmsOnly allowed s (s.leaveFast cause) := by
  unfold leaveFast
  split
  case h_6 | h_7 => exact .refl s
  all_goals exact changeState_armsOnly _ _ _

theorem holdAsserted_armsOnly (s : State) : ArmsOnly allowed s s.holdAsserted := by
  unfold holdAsserted
  split
  · exact .refl s
  · split
    case h_5 | h_6 | h_7 => exact .refl s
    all_goals exact leaveSecurely_armsOnly { s with sync.holdLeft := true } _
  · split
    case h_6 | h_7 => exact .refl s
    case h_5 => exact leaveFast_armsOnly s _
    all_goals exact leaveFast_armsOnly { s with sync.holdLeft := true } _

theorem finishStart_armsOnly (s : State) (cause : StartCause) (pins : Pins) (csnLow : Bool) :
    ArmsOnly allowed s (s.finishStart cause pins csnLow) :=
  have started : ArmsOnly allowed s (s.startValues cause pins csnLow) := .of_start rfl
  started.trans (.ite (changeState_armsOnly _ _ _) (.ite (joinUnasked_armsOnly _) (.refl _)))

/-! ## Ends of an own beacon (R23, R24) -/

theorem beaconEnded_armsOnly (s : State) (b : OwnBeacon) : ArmsOnly allowed s (s.beaconEnded b) :=
  .ite (changeState_armsOnly _ _ _) (.refl s)

theorem sentWhole_armsOnly (s : State) (b : OwnBeacon) : ArmsOnly allowed s (s.sentWhole b) :=
  beaconEnded_armsOnly { s with
    link.beacon := none, link.overdriveRun := 0, link.completeRun := min 255 (s.link.completeRun + 1) } b

theorem cutByOverdrive_armsOnly (s : State) (b : OwnBeacon) : ArmsOnly allowed s (s.cutByOverdrive b) :=
  have cut : ArmsOnly allowed s { s with
    link.beacon := none, link.overdriveRun := min 3 (s.link.overdriveRun + 1), link.completeRun := 0 } := .of_slots rfl
  .ite (cut.trans (changeState_armsOnly _ _ _)) (cut.trans (beaconEnded_armsOnly _ b))

/-! ## Jumps and corrections (R34, R36, R69) -/

theorem alignTime_armsOnly (s : State) (b : Nat) : ArmsOnly allowed s (s.alignTime b) := by
  have alike := alignTime_firesAlike s b
  exact ((takeReached_armsOnly s).trans (jumpSchedule_armsOnly _ s.now b)).trans
    (.of_slots (congrArg Schedule.slots alike.schedule))

theorem applyAction_armsOnly (s : State) (d : Decision) : ArmsOnly allowed s (s.applyAction d) := by
  unfold applyAction
  split
  · have alike := stepTime_firesAlike s d.correction rfl
    exact ((takeReached_armsOnly s).trans (jumpSchedule_armsOnly _ s.now _)).trans
      (.of_slots (congrArg Schedule.slots alike.schedule))
  · exact .of_slots rfl
  · exact .refl s

theorem handleResult_armsOnly {s : State} (transmits : s.sync.state.transmits = true) (c : Int) (action : Action) :
    ArmsOnly allowed s (s.handleResult c action) := by
  obtain ⟨y, -, result⟩ | ⟨new, cause, z, y, -, -, -, -, -, result⟩ := handleResult_keepsOrEnters transmits c action
  · rw [result]
    exact .of_slots rfl
  · rw [result]
    exact enter_armsOnly { s with sync := z } new cause

theorem correct_armsOnly {s : State} (transmits : s.sync.state.transmits = true) : ArmsOnly allowed s s.correct := by
  have acted : ArmsOnly allowed s (s.clearLeads.applyAction s.decision) := applyAction_armsOnly s.clearLeads _
  unfold correct
  refine (acted.trans (.of_slots ?_)).trans (handleResult_armsOnly ?_ _ _)
  · rw [writeLog_recordFlags_eq]
  · rw [recorded_sync]
    exact transmits

theorem takeEpochClose_armsOnly (s : State) : ArmsOnly allowed s s.takeEpochClose := by
  unfold takeEpochClose
  simp only []
  split
  · split
    · exact correct_armsOnly (s := { s.markTaken with link.heard := 0 }) ‹_›
    · exact .of_slots rfl
  · exact .refl s

/-! ## Captures, and answers that arm nothing (R167, R181) -/

theorem captureEdge_armsOnly (s : State) (input : Fin 2) : ArmsOnly allowed s (s.captureEdge input) := by
  have set : ∀ c, ArmsOnly allowed s (s.setCapture input c) := fun _ => .ite (.of_slots rfl) (.of_slots rfl)
  have posted : ∀ (u : State) (r : EventRecord), ArmsOnly allowed u (u.post r) :=
    fun u r => .of_slots (congrArg Schedule.slots (u.post_schedule r))
  unfold captureEdge
  exact .ite ((set _).trans (posted _ _)) (set _)

theorem popAnswer_armsOnly (s : State) : ArmsOnly allowed s s.popAnswer.after := by
  unfold popAnswer
  split <;> exact .of_slots rfl

theorem configureAnswer_armsOnly (s : State) (ident : Byte) (value : Nat) :
    ArmsOnly allowed s (s.configureAnswer ident value).after := by
  unfold configureAnswer
  split
  · exact .refl s
  · split_ifs <;> exact .of_slots rfl

theorem maskAnswer_armsOnly (s : State) (mask enables : Byte) :
    ArmsOnly allowed s (s.maskAnswer mask enables).after := by
  unfold maskAnswer
  split <;> exact .of_slots rfl

theorem clearAnswer_armsOnly (s : State) (alertFlags corrFlags : Byte) :
    ArmsOnly allowed s (s.clearAnswer alertFlags corrFlags).after := by
  unfold clearAnswer
  split <;> exact .of_slots rfl

theorem joinAnswer_armsOnly (s : State) : ArmsOnly allowed s s.joinAnswer.after := by
  unfold joinAnswer
  split
  · exact .refl s
  · exact acceptJoin_armsOnly s

theorem leaveSecureAnswer_armsOnly (s : State) (mode : Byte) :
    ArmsOnly allowed s (s.leaveSecureAnswer mode).after := by
  unfold leaveSecureAnswer
  split_ifs
  · exact .refl s
  · exact .refl s
  · exact leaveSecurely_armsOnly s.dropMarker _

theorem leaveFastAnswer_armsOnly (s : State) : ArmsOnly allowed s s.leaveFastAnswer.after := by
  unfold leaveFastAnswer
  split
  · exact .refl s
  · exact leaveFast_armsOnly s.dropMarker _

/-- SCHEDULE makes a LOCAL entry, which is not SHARED (R119). -/
theorem scheduleAnswer_armsOnly (s : State) (p : TriggerParams) (options : Byte) :
    ArmsOnly allowed s (s.scheduleAnswer p options).after := by
  unfold scheduleAnswer
  split
  · split_ifs
    case neg =>
      split
      · exact .refl s
      · refine .of_slot rfl fun e _ made shared _ => ?_
        cases made
        cases shared
    all_goals exact .refl s
  all_goals exact .refl s

theorem cancelAnswer_armsOnly (s : State) (handle : Byte) : ArmsOnly allowed s (s.cancelAnswer handle).after := by
  unfold cancelAnswer
  split
  · exact .refl s
  · split
    · rename_i e _
      refine .of_freed (h := handle.toNat) ?_
      cases kind : e.kind with
      | localOnly => exact congrArg (·.schedule.slots) (cancelEntry_local kind)
      | shared name =>
        rw [answerOk, cancelEntry_shared kind, post_schedule, declineCancelled_eq _ name e rfl, endProposal_slots]
        rfl
    · exact .refl s

/-! ## The evaluation of arming (R150, R151) -/

theorem evaluateSlot_armsOnly {s : State} (evidence : ∀ name, s.evidenceFor name → allowed name) (h : Nat) :
    ArmsOnly allowed s (s.evaluateSlot h) := by
  by_cases arms : ∃ name e, s.holdsPending h name e ∧ s.evidenceFor name
  · obtain ⟨name, e, pending, holds⟩ := arms
    rw [evaluateSlot_arms pending holds]
    refine .of_slot (s.arm_slots h name e) fun e' name' made shared _ => .inr ?_
    obtain ⟨-, kind, -⟩ := pending
    cases made
    obtain rfl : name = name' := EntryKind.shared.inj (kind.symm.trans shared)
    exact evidence name holds
  · rw [evaluateSlot_idle fun name e pending holds => arms ⟨name, e, pending, holds⟩]
    exact .refl s

theorem evaluateArming_armsOnly {s : State} (evidence : ∀ name, s.evidenceFor name → allowed name) :
    ArmsOnly allowed s s.evaluateArming := by
  have turn : ∀ (u : State) (h : Nat), u.offSchedule = s.offSchedule ∧ ArmsOnly allowed s u →
      (u.evaluateSlot h).offSchedule = s.offSchedule ∧ ArmsOnly allowed s (u.evaluateSlot h) := by
    rintro u h ⟨off, arms⟩
    have same := evidenceFor_congr (offSchedule_peers off) (offSchedule_straps off)
    exact ⟨(evaluateSlot_offSchedule u h).trans off,
      arms.trans (evaluateSlot_armsOnly (fun name holds => evidence name ((same name).1 holds)) h)⟩
  exact (foldl_invariant turn (List.range 16) s ⟨rfl, .refl s⟩).2

end

/-! ## The operations that evaluate arming (R151, R152) -/

theorem evaluateArming_armsByEvidence (s : State) : s.ArmsByEvidence s.evaluateArming :=
  evaluateArming_armsOnly fun name => (evidenceFor_congr (evaluateArming_peers s)
    (offSchedule_straps (evaluateArming_offSchedule s)) name).2

theorem isolationCheck_armsByEvidence {s t : State} (arms : s.ArmsByEvidence t) (old : PeerState) :
    s.ArmsByEvidence (t.isolationCheck old) :=
  have alike := isolationCheck_agreesAlike t old
  arms.then_same (congrArg Schedule.slots alike.1.schedule) alike.2 alike.1.2

theorem updatePeer_armsByEvidence (s : State) (p : Nat) (old new : Peer) :
    s.ArmsByEvidence (s.updatePeer p old new) :=
  .ite (.of_slots rfl)
    (isolationCheck_armsByEvidence (evaluateArming_armsByEvidence (s.setPeer p new).raiseMembership) old.state)

theorem badFrame_armsByEvidence (s : State) (p : Nat) : s.ArmsByEvidence (s.badFrame p) := by
  unfold badFrame
  split
  · exact updatePeer_armsByEvidence _ _ _ _
  · exact .refl s

theorem missedWindow_armsByEvidence (s : State) (p : Nat) : s.ArmsByEvidence (s.missedWindow p) := by
  unfold missedWindow
  split
  · exact updatePeer_armsByEvidence _ _ _ _
  · exact .refl s

theorem beaconNotice_armsByEvidence (s : State) (p : Nat) (offer : Option Offer) :
    s.ArmsByEvidence (s.beaconNotice p offer) := by
  cases offer with
  | none => exact evaluateArming_armsByEvidence s
  | some o => exact (takeOffer_armsOnly s p o).trans (evaluateArming_armsByEvidence _)

theorem arrival_armsByEvidence (s : State) (p : Nat) (lead : Int) (b : Beacon) :
    s.ArmsByEvidence (s.arrival p lead b) := by
  cases entry : s.peers[p]? with
  | none =>
    have unchanged : s.arrival p lead b = s := by simp [arrival, peer, entry]
    rw [unchanged]
    exact .refl s
  | some e =>
    by_cases self : e.state = .self
    · have unchanged : s.arrival p lead b = s := by simp [arrival, peer, entry, self]
      rw [unchanged]
      exact .refl s
    by_cases leaving : b.state = .leaving
    · rw [arrival_leaving entry self leaving]
      exact updatePeer_armsByEvidence _ _ _ _
    · rw [arrival_eq entry self leaving rfl]
      exact isolationCheck_armsByEvidence (beaconNotice_armsByEvidence (s.arrived p e _) p _) _

theorem judgeFrame_armsByEvidence (s : State) (mark : Int) (bits : List Bool) (inError : Bool) :
    s.ArmsByEvidence (s.judgeFrame mark bits inError) := by
  unfold judgeFrame
  split
  · exact changeState_armsOnly _ _ _
  · exact .ite (.refl s) (badFrame_armsByEvidence _ _)
  · exact .refl s
  · exact .ite (.refl s) (.of_slots rfl)
  · rename_i b _
    exact .ite (badFrame_armsByEvidence _ _)
      (arrival_armsByEvidence { s with link.heard := addTo s.link.heard b.sender } _ _ b)

theorem listenFrame_armsByEvidence (s : State) (mark : Int) (bits : List Bool) (inError : Bool) :
    s.ArmsByEvidence (s.listenFrame mark bits inError) := by
  refine .ite (.refl s) (.ite (changeState_armsOnly _ _ _) ?_)
  split
  · exact .ite (((alignTime_armsOnly s _).trans (changeState_armsOnly _ _ _)).trans (judgeFrame_armsByEvidence _ _ _ _))
      (.refl s)
  · exact .refl s

theorem endFrame_armsByEvidence (s : State) (bits : List Bool) (inError : Bool) (wait : Nat) :
    s.ArmsByEvidence (s.endFrame bits inError wait) := by
  unfold endFrame
  split
  · exact .refl s
  · simp only []
    split
    case h_5 => exact listenFrame_armsByEvidence (s.frameEnded wait) _ _ _
    case h_6 | h_7 => exact .of_slots rfl
    all_goals exact judgeFrame_armsByEvidence (s.frameEnded wait) _ _ _

theorem takeWindowClose_armsByEvidence (s : State) : s.ArmsByEvidence s.takeWindowClose := by
  unfold takeWindowClose
  split
  · exact .ite (missedWindow_armsByEvidence s.markTaken _) (.of_slots rfl)
  all_goals exact .refl s

/-- PROPOSE makes a PENDING entry and evaluates its arming (R144, R151). -/
theorem makeProposal_armsByEvidence (s : State) (h : Nat) (p : TriggerParams) (lines : LineSet) :
    s.ArmsByEvidence (s.makeProposal h p lines) := by
  rw [makeProposal_eq s h p lines rfl]
  refine .trans (.of_slot (h := h) rfl fun e _ made _ armed => ?_) (evaluateSlot_armsOnly (fun name => ?_) h)
  · cases made
    cases armed
  · exact (evidenceFor_congr (evaluateSlot_peers _ h) (offSchedule_straps (evaluateSlot_offSchedule _ h)) name).2

theorem proposeAnswer_armsByEvidence (s : State) (p : TriggerParams) : s.ArmsByEvidence (s.proposeAnswer p).after := by
  unfold proposeAnswer
  repeat' split
  case h_2.isFalse.isFalse.isFalse => exact makeProposal_armsByEvidence _ _ _ _
  all_goals exact .refl s

theorem releaseAnswer_armsByEvidence (s : State) (station : Nat) :
    s.ArmsByEvidence (s.releaseAnswer station).after := by
  unfold releaseAnswer
  split
  · exact .refl s
  · split
    · exact updatePeer_armsByEvidence _ _ _ _
    · exact .refl s

theorem transaction_armsByEvidence {s : State} {take : State → State} (taken : s.ArmsByEvidence (take s)) :
    s.ArmsByEvidence (s.transaction take) :=
  .ite (.refl s) (.ite (.of_slots rfl) taken)

theorem command_armsByEvidence {s : State} (code : Byte) {act : State → Answer}
    (acted : s.ArmsByEvidence (act s).after) : s.ArmsByEvidence (s.command code act) :=
  transaction_armsByEvidence (acted.then_same rfl rfl rfl)

/-- What a row does only while no start is in progress (R196). -/
theorem running_armsByEvidence {s u : State} (acted : s.ArmsByEvidence u) :
    s.ArmsByEvidence (if s.running then u else s) :=
  .ite acted (.refl s)

end State

/-! ## Every row in which T does not run -/

theorem exec_armsByEvidence {c : Instr} {s t : State} (run : exec c s = .next t) (noRunning : runsTime c = false) :
    s.ArmsByEvidence t := by
  cases c with
  | slewPoint | referencePeriod => cases noRunning
  | readStatus | readConfig | readTime | readEntry | readSchedule | readPeer | readLog | unknownCommand =>
    cases run; exact State.command_armsByEvidence _ (.refl s)
  | popEvent => cases run; exact State.command_armsByEvidence _ (State.popAnswer_armsOnly s)
  | configure => cases run; exact State.command_armsByEvidence _ (State.configureAnswer_armsOnly s _ _)
  | setAlertMask => cases run; exact State.command_armsByEvidence _ (State.maskAnswer_armsOnly s _ _)
  | clear => cases run; exact State.command_armsByEvidence _ (State.clearAnswer_armsOnly s _ _)
  | join => cases run; exact State.command_armsByEvidence _ (State.joinAnswer_armsOnly s)
  | leaveSecure => cases run; exact State.command_armsByEvidence _ (State.leaveSecureAnswer_armsOnly s _)
  | leaveFast => cases run; exact State.command_armsByEvidence _ (State.leaveFastAnswer_armsOnly s)
  | schedule => cases run; exact State.command_armsByEvidence _ (State.scheduleAnswer_armsOnly s _ _)
  | propose => cases run; exact State.command_armsByEvidence _ (State.proposeAnswer_armsByEvidence s _)
  | cancel => cases run; exact State.command_armsByEvidence _ (State.cancelAnswer_armsOnly s _)
  | release => cases run; exact State.command_armsByEvidence _ (State.releaseAnswer_armsByEvidence s _)
  | restart pins => cases run; exact State.transaction_armsByEvidence (State.finishStart_armsOnly s .command pins false)
  | response | transactionDiscarded => cases run; exact State.transaction_armsByEvidence (.of_slots rfl)
  | powerOn | resetnFall => cases run; exact .of_start rfl
  | startEnd pins csnLow =>
    cases run
    split
    · exact State.finishStart_armsOnly s _ pins csnLow
    · exact .refl s
  | holdAssertion =>
    cases run
    exact .ite (State.holdAsserted_armsOnly { s with port.holdLevel := true }) (.refl s)
  | holdRelease =>
    cases run
    exact .ite (.ite (State.joinUnasked_armsOnly { s with port.holdLevel := false }) (.of_slots rfl)) (.refl s)
  | capEdge => cases run; exact State.running_armsByEvidence (State.captureEdge_armsOnly s _)
  | frameEnd | receiveTimeout => cases run; exact State.running_armsByEvidence (State.endFrame_armsByEvidence s _ _ _)
  | overdrive =>
    change execOverdrive s = .next t at run
    unfold execOverdrive at run
    split at run
    · cases run; exact State.running_armsByEvidence (State.cutByOverdrive_armsOnly s _)
    · cases run; exact .refl s
  | beaconSentWhole =>
    change execBeaconSentWhole s = .next t at run
    unfold execBeaconSentWhole at run
    split at run
    · cases run; exact State.running_armsByEvidence (State.sentWhole_armsOnly s _)
    · cases run; exact .refl s
  | ownSendInstant =>
    cases run
    exact State.running_armsByEvidence (.ite (.ite (.of_slots rfl) (.of_slots rfl)) (.refl s))
  | windowClose => cases run; exact State.running_armsByEvidence (State.takeWindowClose_armsByEvidence s)
  | epochClose => cases run; exact State.running_armsByEvidence (State.takeEpochClose_armsOnly s)
  | triggerFire handle => cases run; exact State.running_armsByEvidence (State.fireIfDue_armsOnly s handle)
  | sharedDeadline handle => cases run; exact State.running_armsByEvidence (State.deadlineIfDue_armsOnly s handle)
  | listenDeadline =>
    cases run
    exact State.running_armsByEvidence (.ite (State.changeState_armsOnly s _ _) (.refl s))
  | declinedExpiry | pulseEnd | startOfFrame => cases run; exact .ite (.of_slots rfl) (.refl s)

/-- Settles O54: every row but the two in which T runs arms on the evidence of the state it leaves. -/
theorem armedOnlyOnEvidence : Obligations.ArmedOnlyOnEvidence := by
  intro c s t h e name run noRunning held armed kind notBefore
  obtain ⟨e₀, stood, shared, before⟩ | evidence := exec_armsByEvidence run noRunning h name ⟨e, held, kind, armed⟩
  · exact absurd before (notBefore e₀ stood shared)
  · exact evidence

end Sys2Proof.Machine
end

section
/-!
The capture inputs and the event queue: what an edge at CAP0 or CAP1 leaves, what POP EVENT answers, and the two pins
that tell the controller of it, EVENT as a level of the raised set and ALERTn (R166 to R175, R189, R191).
-/
namespace Sys2Proof.Machine

/-! ## POP EVENT (R174) -/

namespace State

theorem popAnswer_of_cons {s : State} {r : EventRecord} {rest : List EventRecord}
    (queue : s.capture.queue = r :: rest) :
    s.popAnswer = answerOk { s with capture.queue := rest } (.event rest.length r) := by
  simp only [popAnswer, queue]

theorem popAnswer_of_nil {s : State} (queue : s.capture.queue = []) : s.popAnswer = refusal s .empty := by
  simp only [popAnswer, queue]

end State

theorem exec_popEvent {s after : State} {response : ResponseCode} {body : ResponseBody} (takes : s.takes = true)
    (answers : s.popAnswer = ⟨after, response, body⟩) (serial : after.port.serial = s.port.serial) :
    exec .popEvent s = .next (after.answered 0x17 0 response body) :=
  congrArg Host.Outcome.next (State.command_answers takes rfl answers serial)

/-! ## The event queue (R172, R173) -/

namespace State

theorem post_of_room {s : State} {r : EventRecord} (room : s.capture.queue.length < 16) :
    s.post r = { s with capture.queue := s.capture.queue ++ [r] } := if_pos room

theorem post_of_full {s : State} {r : EventRecord} (full : 16 ≤ s.capture.queue.length) :
    s.post r = s.raiseOverflow := if_neg full.not_gt

end State

/-! ## EVENT and ALERTn (R175, R189, R191) -/

theorem AlertSet.any_iff (a : AlertSet) : a.any = true ↔
    a.state = true ∨ a.membership = true ∨ a.event = true ∨ a.overflow = true ∨ a.correction = true := by
  simp only [AlertSet.any, Bool.or_eq_true, or_assoc]

/-- A set intersected with a mask holds a flag exactly when one of its flags is admitted by the mask. -/
theorem AlertSet.inter_any_iff (a mask : AlertSet) : (a.inter mask).any = true ↔
    (a.state = true ∧ mask.state = true) ∨ (a.membership = true ∧ mask.membership = true) ∨
      (a.event = true ∧ mask.event = true) ∨ (a.overflow = true ∧ mask.overflow = true) ∨
      (a.correction = true ∧ mask.correction = true) := by
  simp only [AlertSet.any_iff, AlertSet.inter, Bool.and_eq_true]

namespace State

theorem raised_event_iff (s : State) : s.raised.event = true ↔ s.capture.queue ≠ [] := by
  simp [raised]

theorem alertLow_iff (s : State) : s.alertLow = true ↔ s.port.starting = none ∧ s.signalling.any = true := by
  simp only [alertLow, Bool.and_eq_true, Option.isNone_iff_eq_none]

end State

/-- Settles O11: the queue's own equations, and ALERTn through the flags that the mask admits. -/
theorem eventQueueAndAlertLine : Obligations.EventQueueAndAlertLine := by
  refine ⟨fun s r rest takes queue => ?_, fun s takes queue => ?_, fun s r room => State.post_of_room room,
    fun s r full => State.post_of_full full, State.raised_event_iff, fun s => ?_⟩
  · exact exec_popEvent takes (State.popAnswer_of_cons queue) rfl
  · exact exec_popEvent takes (State.popAnswer_of_nil queue) rfl
  · rw [s.alertLow_iff, State.signalling, AlertSet.inter_any_iff, s.raised_event_iff]
    rfl

/-! ## An edge at a capture input (R167 to R169) -/

theorem EdgeSelection.selects_iff (selection : EdgeSelection) (edge : Edge) : selection.selects edge = true ↔
    selection = .both ∨ (selection = .rise ∧ edge = .rise) ∨ (selection = .fall ∧ edge = .fall) := by
  cases selection with
  | off | both => simp [EdgeSelection.selects]
  | rise | fall => cases edge <;> simp [EdgeSelection.selects]

/-- An edge passes unless T stands at the start of the hold-off or at most 999 ns after it (R168). -/
theorem CaptureInput.passes_iff (c : CaptureInput) (t : Nat) : c.passes t = true ↔
    ¬ ∃ start, c.holdoffStart = some start ∧ start ≤ t ∧ t - start ≤ 999 := by
  cases holdoff : c.holdoffStart with
  | none => simp [CaptureInput.passes, holdoff]
  | some start =>
    simp only [CaptureInput.passes, holdoff, decide_eq_true_eq, Option.some.injEq, exists_eq_left']
    omega

theorem exec_capEdge {s : State} (running : s.port.starting = none) (input : Fin 2) :
    exec (.capEdge input) s = .next (s.captureEdge input) :=
  congrArg Host.Outcome.next (if_pos (State.running_of_not_starting running))

namespace State

section
variable {s : State} {input : Fin 2} {edge : Edge}
  (turns : edge = if (s.captureInput input).level then .fall else .rise)
include turns

/-- A selected edge past the hold-off is a capture (R167, R168, R169). -/
theorem captureEdge_of_captured (selected : (s.port.config.edge input).selects edge = true)
    (past : (s.captureInput input).passes s.now = true) :
    s.captureEdge input =
      (s.setCapture input ⟨!(s.captureInput input).level, some s.now⟩).post
        (.capture input edge s.stamp s.sync.state) := by
  subst turns
  exact if_pos (Bool.and_eq_true_iff.2 ⟨selected, past⟩)

/-- An edge that is not selected or is held off sets the level alone (R167, R168). -/
theorem captureEdge_of_ignored
    (ignored : ¬ ((s.port.config.edge input).selects edge = true ∧ (s.captureInput input).passes s.now = true)) :
    s.captureEdge input =
      s.setCapture input { s.captureInput input with level := !(s.captureInput input).level } := by
  subst turns
  exact if_neg (mt Bool.and_eq_true_iff.1 ignored)

end

end State

/-- Settles O28: both inputs are one input read and put back, and an edge at it is a capture or is not. -/
theorem captureEdge : Obligations.CaptureEdge := by
  intro s input c selection put running first second edge turns selected selectedIff heldOff heldOffIff
  obtain ⟨rfl, rfl, puts⟩ :
      c = s.captureInput input ∧ selection = s.port.config.edge input ∧ ∀ x, put x = s.setCapture input x := by
    match input with
    | 0 => exact first rfl
    | 1 => exact second rfl
  have selects : selected ↔ (s.port.config.edge input).selects edge = true :=
    selectedIff.trans (EdgeSelection.selects_iff _ _).symm
  have passes : ¬ heldOff ↔ (s.captureInput input).passes s.now = true :=
    (not_congr heldOffIff).trans (CaptureInput.passes_iff _ _).symm
  rw [exec_capEdge running, puts, puts]
  refine ⟨fun ignored => ?_, fun isSelected past => ?_⟩
  · have notBoth : ¬ (selected ∧ ¬ heldOff) := by tauto
    rw [State.captureEdge_of_ignored turns (mt (and_congr selects passes).2 notBoth)]
  · rw [State.captureEdge_of_captured turns (selects.1 isSelected) (passes.1 past)]
    rfl

end Sys2Proof.Machine
end

section
/-!
What the events and the commands leave of the port for the controller: the waiting commands, the configuration store
and the frozen flag, which an accepted JOIN sets and no event clears (R95, R182, R185, R187).
-/
namespace Sys2Proof.Machine

/-- From s to t the waiting commands and the configuration stand, and the frozen flag is not cleared. -/
structure State.PortStands (s t : State) : Prop where
  pending : t.pending = s.pending
  config : t.port.config = s.port.config
  frozen : s.port.frozen = true → t.port.frozen = true

/-- What the relation speaks of. -/
def State.standing (s : State) : List Instr × ConfigStore × Bool := (s.pending, s.port.config, s.port.frozen)

namespace State.PortStands

theorem refl (s : State) : s.PortStands s := ⟨rfl, rfl, id⟩

theorem trans {s t u : State} (first : s.PortStands t) (second : t.PortStands u) : s.PortStands u :=
  ⟨second.pending.trans first.pending, second.config.trans first.config, second.frozen ∘ first.frozen⟩

theorem of_standing {s t : State} (h : t.standing = s.standing) : s.PortStands t := by
  simp only [standing, Prod.mk.injEq] at h
  obtain ⟨pending, config, frozen⟩ := h
  exact ⟨pending, config, frozen.symm ▸ id⟩

/-- An event of the schedule is none of the port's. -/
theorem of_offSchedule {s t : State} (off : t.offSchedule = s.offSchedule) : s.PortStands t :=
  have same : t.offSchedule.standing = s.offSchedule.standing := congrArg standing off
  of_standing same

theorem ite {s t u : State} {p : Prop} [Decidable p] (first : s.PortStands t) (second : s.PortStands u) :
    s.PortStands (if p then t else u) :=
  iteInduction (motive := s.PortStands) (fun _ => first) fun _ => second

end State.PortStands

namespace State

/-! ## State changes and the peer table -/

theorem enter_portStands (s : State) (new : StationState) (cause : Cause) : s.PortStands (s.enter new cause) := by
  have left : s.PortStands (s.leftFor new) := .of_offSchedule (leftFor_offSchedule s new)
  rw [enter_eq cause rfl]
  exact left.trans (.of_standing rfl)

/-- An accepted JOIN freezes the configuration (R95). -/
theorem acceptJoin_portStands (s : State) : s.PortStands s.acceptJoin :=
  have freezes : s.PortStands { s with port.frozen := true, sync.holdLeft := false, sync.alignSources := 0 } :=
    ⟨rfl, rfl, fun _ => rfl⟩
  (freezes.trans (enter_portStands _ .listen .joined)).trans (.of_standing rfl)

theorem joinUnasked_portStands (s : State) : s.PortStands s.joinUnasked := by
  unfold joinUnasked
  split
  · exact acceptJoin_portStands s
  · exact .refl s

theorem changeState_portStands (s : State) (new : StationState) (cause : Cause) :
    s.PortStands (s.changeState new cause) :=
  have entered := enter_portStands s new cause
  .ite (entered.trans (joinUnasked_portStands _)) entered

theorem isolationCheck_portStands (s : State) (old : PeerState) : s.PortStands (s.isolationCheck old) :=
  .ite (changeState_portStands _ _ _) (.refl s)

theorem updatePeer_portStands (s : State) (p : Nat) (old new : Peer) : s.PortStands (s.updatePeer p old new) := by
  have replaced : s.PortStands (s.setPeer p new) := .of_standing rfl
  have raised : s.PortStands (s.setPeer p new).raiseMembership := .of_standing rfl
  have evaluated := raised.trans (.of_offSchedule (evaluateArming_offSchedule _))
  exact .ite replaced (evaluated.trans (isolationCheck_portStands _ _))

theorem badFrame_portStands (s : State) (p : Nat) : s.PortStands (s.badFrame p) := by
  unfold badFrame
  split
  · exact updatePeer_portStands _ _ _ _
  · exact .refl s

theorem missedWindow_portStands (s : State) (p : Nat) : s.PortStands (s.missedWindow p) := by
  unfold missedWindow
  split
  · exact updatePeer_portStands _ _ _ _
  · exact .refl s

theorem arrival_portStands (s : State) (p : Nat) (lead : Int) (b : Beacon) : s.PortStands (s.arrival p lead b) := by
  have noticed : ∀ u : State, s.PortStands u → ∀ offer, s.PortStands (u.beaconNotice p offer) :=
    fun u stood offer => stood.trans (.of_offSchedule (beaconNotice_offSchedule u p offer))
  unfold arrival
  split
  · exact .refl s
  · split
    · exact .refl s
    · split
      · exact updatePeer_portStands _ _ _ _
      · have replaced : ∀ e, s.PortStands (s.setPeer p e) := fun e => .of_standing rfl
        have raised : ∀ e, s.PortStands (s.setPeer p e).raiseMembership := fun e => .of_standing rfl
        simp only []
        split
        · exact noticed _ (replaced _) _
        · exact (noticed _ (raised _) _).trans (isolationCheck_portStands _ _)

/-! ## Frames and own beacons -/

theorem judgeFrame_portStands (s : State) (mark : Int) (bits : List Bool) (inError : Bool) :
    s.PortStands (s.judgeFrame mark bits inError) := by
  unfold judgeFrame
  split
  · exact changeState_portStands _ _ _
  · exact .ite (.refl s) (badFrame_portStands _ _)
  · exact .refl s
  · exact .ite (.refl s) (.of_standing rfl)
  · rename_i b _
    have heard : s.PortStands { s with link.heard := addTo s.link.heard b.sender } := .of_standing rfl
    exact .ite (badFrame_portStands _ _) (heard.trans (arrival_portStands _ _ _ _))

theorem alignTime_portStands (s : State) (b : Nat) : s.PortStands (s.alignTime b) := by
  have reached : s.PortStands s.takeReached := .of_offSchedule (takeReached_offSchedule s)
  have jumped : ∀ (u : State) (a b : Nat), u.PortStands (u.jumpSchedule a b) :=
    fun u a b => .of_offSchedule (jumpSchedule_offSchedule u a b)
  have aligned : ∀ (u : State) (b : Timebase) (l : Link), u.PortStands { u with timebase := b, link := l } :=
    fun _ _ _ => .of_standing rfl
  unfold alignTime
  exact .trans (.trans reached (aligned _ _ _)) (jumped _ _ _)

theorem alignTo_portStands (s : State) (b : Beacon) (mark : Int) (bits : List Bool) :
    s.PortStands (s.alignTo b mark bits) :=
  ((alignTime_portStands s _).trans (changeState_portStands _ _ _)).trans (judgeFrame_portStands _ _ _ _)

theorem listenFrame_portStands (s : State) (mark : Int) (bits : List Bool) (inError : Bool) :
    s.PortStands (s.listenFrame mark bits inError) := by
  refine .ite (.refl s) (.ite (changeState_portStands _ _ _) ?_)
  split
  · exact .ite (alignTo_portStands _ _ _ _) (.refl s)
  · exact .refl s

theorem endFrame_portStands (s : State) (bits : List Bool) (inError : Bool) (wait : Nat) :
    s.PortStands (s.endFrame bits inError wait) := by
  unfold endFrame
  split
  · exact .refl s
  · have ended : s.PortStands { s with link.reception := none, link.idleIn := wait } := .of_standing rfl
    simp only []
    split
    case h_5 => exact ended.trans (listenFrame_portStands _ _ _ _)
    case h_6 | h_7 => exact ended
    all_goals exact ended.trans (judgeFrame_portStands _ _ _ _)

theorem beaconEnded_portStands (s : State) (b : OwnBeacon) : s.PortStands (s.beaconEnded b) :=
  .ite (changeState_portStands _ _ _) (.refl s)

theorem sentWhole_portStands (s : State) (b : OwnBeacon) : s.PortStands (s.sentWhole b) :=
  have sent : s.PortStands { s with
    link.beacon := none, link.overdriveRun := 0, link.completeRun := min 255 (s.link.completeRun + 1) } :=
    .of_standing rfl
  sent.trans (beaconEnded_portStands _ b)

theorem cutByOverdrive_portStands (s : State) (b : OwnBeacon) : s.PortStands (s.cutByOverdrive b) :=
  have cut : s.PortStands { s with
    link.beacon := none, link.overdriveRun := min 3 (s.link.overdriveRun + 1), link.completeRun := 0 } :=
    .of_standing rfl
  .ite (cut.trans (changeState_portStands _ _ _)) (cut.trans (beaconEnded_portStands _ b))

/-! ## Corrections and instants -/

theorem applyAction_portStands (s : State) (d : Decision) : s.PortStands (s.applyAction d) := by
  have pending := portStill_pending (applyAction_portStill s d)
  obtain ⟨-, -, -, port, -⟩ := applyAction_frame s d
  exact ⟨pending, by rw [port], by rw [port]; exact id⟩

theorem handleResult_portStands {s : State} (transmits : s.sync.state.transmits = true) (c : Int) (action : Action) :
    s.PortStands (s.handleResult c action) := by
  have pending := portStill_pending (handleResult_portStill s c action)
  obtain ⟨-, -, port, -⟩ := keepsOrEnters_effect (handleResult_keepsOrEnters transmits c action)
  exact ⟨pending, by rw [port], by rw [port]; exact id⟩

/-- A correction writes the alert flags alone of the port (R69, R83, R91). -/
theorem correct_portStands {s : State} (transmits : s.sync.state.transmits = true) : s.PortStands s.correct := by
  have cleared : s.PortStands s.clearLeads := .of_standing rfl
  have recorded : ∀ (u : State) (flags : CorrFlags) (r : LogRecord), u.PortStands ((u.recordFlags flags).writeLog r) :=
    fun u flags r => writeLog_recordFlags_eq u flags r ▸ .of_standing rfl
  unfold correct
  refine .trans (.trans (cleared.trans (applyAction_portStands _ _)) (recorded _ _ _)) (handleResult_portStands ?_ _ _)
  rw [recorded_sync]
  exact transmits

theorem takeOwnSend_portStands (s : State) : s.PortStands s.takeOwnSend :=
  .ite (.ite (.of_standing rfl) (.of_standing rfl)) (.refl s)

theorem takeWindowClose_portStands (s : State) : s.PortStands s.takeWindowClose := by
  have marked : s.PortStands s.markTaken := .of_standing rfl
  unfold takeWindowClose
  split
  · exact .ite (marked.trans (missedWindow_portStands _ _)) marked
  all_goals exact .refl s

theorem takeEpochClose_portStands (s : State) : s.PortStands s.takeEpochClose := by
  have emptied : s.PortStands { s.markTaken with link.heard := 0 } := .of_standing rfl
  unfold takeEpochClose
  simp only []
  split
  · split
    · exact emptied.trans (correct_portStands ‹_›)
    · exact emptied
  · exact .refl s

theorem takeListenDeadline_portStands (s : State) : s.PortStands s.takeListenDeadline :=
  .ite (changeState_portStands _ _ _) (.refl s)

theorem slewUnit_portStands (s : State) : s.PortStands s.slewUnit :=
  .ite (.ite (.of_standing rfl) (.of_standing rfl)) (.of_standing rfl)

theorem takeSlewPoint_portStands (s : State) : s.PortStands s.takeSlewPoint :=
  .ite (slewUnit_portStands s) (.refl s)

theorem settleStanding_portStands (s : State) : s.PortStands s.settleStanding :=
  have fired : s.PortStands s.takeFirings := .of_offSchedule (takeFirings_offSchedule s)
  have abandoned := fired.trans (.of_offSchedule (takeDeadlines_offSchedule _))
  have expired := abandoned.trans (.of_offSchedule (takeExpiries_offSchedule _))
  have sent := (expired.trans (takeListenDeadline_portStands _)).trans (takeOwnSend_portStands _)
  have closed := (sent.trans (takeWindowClose_portStands _)).trans (takeEpochClose_portStands _)
  closed.trans (.of_offSchedule (takePulseEnds_offSchedule _))

theorem takeSlewRow_portStands (s : State) : s.PortStands s.takeSlewRow :=
  .ite ((settleStanding_portStands s).trans (takeSlewPoint_portStands _)) (takeSlewPoint_portStands s)

theorem settle_portStands (s : State) : s.PortStands s.settle :=
  (settleStanding_portStands s).trans (takeSlewRow_portStands _)

/-! ## The running of T -/

theorem settleAll_portStands (fuel : Nat) (s : State) : s.PortStands (settleAll fuel s) := by
  induction fuel generalizing s with
  | zero => exact .refl s
  | succ fuel ih => exact .ite ((settle_portStands s).trans (ih _)) (.refl s)

theorem beginPeriod_portStands (s : State) : s.PortStands s.beginPeriod :=
  .ite ((settleAll_portStands 4 s).trans (.of_standing rfl)) (.refl s)

theorem runPeriod_portStands (fuel : Nat) (stop : Option Nat) (s : State) :
    s.PortStands (runPeriod fuel stop s) := by
  induction fuel generalizing stop s with
  | zero => exact .refl s
  | succ fuel ih =>
    have ran : ∀ d, s.PortStands (s.runNs d) := fun _ => .of_standing rfl
    exact .ite (.refl s) (.ite ((settle_portStands s).trans (ih _ _))
      (.ite (.of_standing rfl) ((ran _).trans (ih _ _))))

/-! ## Pins and starts -/

theorem leaveSecurely_portStands (s : State) (cause : Cause) : s.PortStands (s.leaveSecurely cause) := by
  unfold leaveSecurely
  split
  case h_1 | h_2 | h_3 | h_4 => exact changeState_portStands _ _ _
  all_goals exact .refl s

theorem leaveFast_portStands (s : State) (cause : Cause) : s.PortStands (s.leaveFast cause) := by
  unfold leaveFast
  split
  case h_6 | h_7 => exact .refl s
  all_goals exact changeState_portStands _ _ _

theorem holdAsserted_portStands (s : State) : s.PortStands s.holdAsserted := by
  have marked : s.PortStands { s with sync.holdLeft := true } := .of_standing rfl
  unfold holdAsserted
  split
  · exact .refl s
  · split
    case h_5 | h_6 | h_7 => exact .refl s
    all_goals exact marked.trans (leaveSecurely_portStands _ _)
  · split
    case h_6 | h_7 => exact .refl s
    case h_5 => exact leaveFast_portStands _ _
    all_goals exact marked.trans (leaveFast_portStands _ _)

theorem captureEdge_portStands (s : State) (input : Fin 2) : s.PortStands (s.captureEdge input) := by
  have set : ∀ c, s.PortStands (s.setCapture input c) := fun c => .ite (.of_standing rfl) (.of_standing rfl)
  unfold captureEdge
  exact .ite ((set _).trans (.of_offSchedule (post_offSchedule _ _))) (set _)

/-- The strap check of a start keeps the waiting commands (R92, R93). -/
theorem finishStart_pending (s : State) (cause : StartCause) (pins : Pins) (csnLow : Bool) :
    (s.finishStart cause pins csnLow).pending = s.pending :=
  have checked : (s.startValues cause pins csnLow).PortStands (s.finishStart cause pins csnLow) :=
    .ite (changeState_portStands _ _ _) (.ite (joinUnasked_portStands _) (.refl _))
  checked.pending

end State
end Sys2Proof.Machine
end

section
/-!
The rows of the station port as transactions: which of them are commands and what each does, what a start holds off,
what a refused command leaves, and what the commands that read and write the port answer (R178 to R198).
-/
namespace Sys2Proof.Machine

/-! ## The work of a command (R180, R182) -/

/-- The code byte of a command row and what the command does; RESTART, which has no answer of its own, and the rows
that are no command have none (10.5, R197). -/
def commandWork : Instr → Option (Byte × (State → Answer))
  | .readStatus => some (0x10, fun s => answerOk s (.status s.statusRecord))
  | .readConfig => some (0x11, fun s => answerOk s (.config s.port.config s.port.frozen))
  | .readTime => some (0x12, fun s => answerOk s (.time s.timeRecord))
  | .readEntry handle => some (0x13, fun s => ⟨s, (s.readEntryAnswer handle).1, (s.readEntryAnswer handle).2⟩)
  | .readSchedule position =>
    some (0x14, fun s => ⟨s, (s.readScheduleAnswer position).1, (s.readScheduleAnswer position).2⟩)
  | .readPeer station => some (0x15, fun s => ⟨s, (s.readPeerAnswer station).1, (s.readPeerAnswer station).2⟩)
  | .readLog age => some (0x16, fun s => ⟨s, (s.readLogAnswer age).1, (s.readLogAnswer age).2⟩)
  | .popEvent => some (0x17, State.popAnswer)
  | .configure ident value => some (0x20, fun s => s.configureAnswer ident value.toNat)
  | .setAlertMask mask enables => some (0x21, fun s => s.maskAnswer mask enables)
  | .clear alertFlags corrFlags => some (0x22, fun s => s.clearAnswer alertFlags corrFlags)
  | .join => some (0x30, State.joinAnswer)
  | .leaveSecure mode => some (0x31, fun s => s.leaveSecureAnswer mode)
  | .leaveFast => some (0x31, State.leaveFastAnswer)
  | .schedule params options => some (0x40, fun s => s.scheduleAnswer params options)
  | .propose params => some (0x41, fun s => s.proposeAnswer params)
  | .cancel handle => some (0x42, fun s => s.cancelAnswer handle)
  | .release station => some (0x50, fun s => s.releaseAnswer station.toNat)
  | .unknownCommand code => some (code, fun s => refusal s .unknown)
  | _ => none

/-- A command row is its work, taken as a command transaction. -/
theorem exec_of_commandWork {c : Instr} {code : Byte} {act : State → Answer} (work : commandWork c = some (code, act))
    (s : State) : exec c s = .next (s.command code act) := by
  cases c <;> cases work <;> rfl

/-- The rows that send the bytes of a command are the rows with work, and RESTART. -/
theorem commandWork_isSome (c : Instr) :
    (commandWork c).isSome = ((encodeTransaction c).isSome && !isRestart c) := by
  cases c <;> rfl

/-- The transactions are the commands, RESTART, RESPONSE and the discarded ones. -/
theorem isTransaction_cases {c : Instr} (transacts : isTransaction c = true) :
    (∃ code act, commandWork c = some (code, act)) ∨ (∃ pins, c = .restart pins) ∨ (∃ count, c = .response count) ∨
      ∃ count, c = .transactionDiscarded count := by
  cases c with
  | restart pins => exact .inr (.inl ⟨pins, rfl⟩)
  | response count => exact .inr (.inr (.inl ⟨count, rfl⟩))
  | transactionDiscarded count => exact .inr (.inr (.inr ⟨count, rfl⟩))
  | powerOn | resetnFall | startEnd | holdAssertion | holdRelease | capEdge | frameEnd | receiveTimeout | overdrive
  | beaconSentWhole | ownSendInstant | windowClose | epochClose | slewPoint | triggerFire | sharedDeadline
  | listenDeadline | declinedExpiry | pulseEnd | startOfFrame | referencePeriod => cases transacts
  | _ => exact .inl ⟨_, _, rfl⟩

theorem exec_transaction {c : Instr} (transacts : isTransaction c = true) :
    ∃ take : State → State, ∀ s, exec c s = .next (s.transaction take) := by
  obtain ⟨code, act, work⟩ | ⟨pins, rfl⟩ | ⟨count, rfl⟩ | ⟨count, rfl⟩ := isTransaction_cases transacts
  · exact ⟨_, exec_of_commandWork work⟩
  all_goals exact ⟨_, fun _ => rfl⟩

/-- A command taken, whose work leaves the serial, leaves its work and the answer to it. -/
theorem exec_answers {c : Instr} {s after : State} {code : Byte} {act : State → Answer} {params : Nat}
    {response : ResponseCode} {body : ResponseBody} (takes : s.takes = true) (work : commandWork c = some (code, act))
    (bytes : paramBytes code = params) (answers : act s = ⟨after, response, body⟩)
    (serial : after.port.serial = s.port.serial) : exec c s = .next (after.answered code params response body) :=
  (exec_of_commandWork work s).trans (congrArg _ (State.command_answers takes bytes answers serial))

/-! ## Transactions in a start and after it (R196, R198) -/

namespace State

theorem not_running {s : State} (starting : s.port.starting ≠ none) : s.running = false := by
  simpa [running, Option.isSome_iff_ne_none] using starting

theorem transaction_starting {s : State} (starting : s.port.starting ≠ none) (take : State → State) :
    s.transaction take = s := by
  simp [transaction, not_running starting]

theorem transaction_ignored {s : State} (ended : s.port.starting = none) (await : s.port.awaitCsHigh = true)
    (take : State → State) : s.transaction take = { s with port.awaitCsHigh := false, port.sdo := [] } := by
  simp [transaction, running_of_not_starting ended, await]

theorem takes_iff (s : State) : s.takes = true ↔ s.port.starting = none ∧ s.port.awaitCsHigh = false := by
  simp [takes]

theorem transaction_takes {s : State} (takes : s.takes = true) (take : State → State) :
    s.transaction take = take s := by
  obtain ⟨ended, high⟩ := s.takes_iff.1 takes
  simp [transaction, running_of_not_starting ended, high]

end State

/-- While a start is in progress a row that is none of the start's own does nothing (R196; log 14). -/
theorem exec_starting {c : Instr} {s : State} (starting : s.port.starting ≠ none) (noStart : isStartRow c = false) :
    exec c s = .next s := by
  have still := State.not_running starting
  by_cases transacts : isTransaction c = true
  · obtain ⟨take, row⟩ := exec_transaction transacts
    rw [row, State.transaction_starting starting]
  · cases c with
    | powerOn | resetnFall | startEnd => cases noStart
    | holdAssertion | holdRelease | capEdge | frameEnd | receiveTimeout | ownSendInstant | windowClose | epochClose
    | slewPoint | triggerFire | sharedDeadline | listenDeadline | declinedExpiry | pulseEnd | startOfFrame
    | referencePeriod => exact congrArg Host.Outcome.next (if_neg (by simp [still]))
    | overdrive =>
      change execOverdrive s = .next s
      unfold execOverdrive
      split <;> simp [still]
    | beaconSentWhole =>
      change execBeaconSentWhole s = .next s
      unfold execBeaconSentWhole
      split <;> simp [still]
    | _ => exact absurd rfl transacts

/-- Settles O3: each row asks whether a start is in progress, each transaction whether CSn has been high since. -/
theorem startsHoldOffTransactions : Obligations.StartsHoldOffTransactions := by
  refine ⟨fun c s starting noStart => exec_starting starting noStart, fun c s transacts ended await => ?_,
    fun s csnLow sdi => ⟨fun silent => ?_, fun ended await => ?_⟩⟩
  · obtain ⟨take, row⟩ := exec_transaction transacts
    rw [row, State.transaction_ignored ended await]
  · refine if_pos ?_
    obtain starting | high := silent
    · simp [State.not_running starting]
    · simp [high]
  · simp [State.sdoLevel, State.running_of_not_starting ended, await]

/-! ## Commands that are refused (R181) -/

/-- What a command can do in s: it is refused and changes nothing, or it is accepted and leaves a state such as P
allows (R181). -/
def Answer.RefusedOr (s : State) (P : State → Prop) (a : Answer) : Prop :=
  (∃ code, a = refusal s code) ∨ ∃ after body, a = answerOk after body ∧ P after

namespace Answer.RefusedOr

theorem refused {s : State} {P : State → Prop} (code : ResponseCode) : (refusal s code).RefusedOr s P :=
  .inl ⟨code, rfl⟩

theorem accepted {s after : State} {P : State → Prop} (body : ResponseBody) (allowed : P after) :
    (answerOk after body).RefusedOr s P :=
  .inr ⟨after, body, rfl, allowed⟩

theorem mono {s : State} {P Q : State → Prop} {a : Answer} (weaker : ∀ t, P t → Q t) (h : a.RefusedOr s P) :
    a.RefusedOr s Q :=
  h.imp_right fun ⟨after, body, answers, allowed⟩ => ⟨after, body, answers, weaker after allowed⟩

/-- A command answered with a code other than OK was refused. -/
theorem eq_refusal {s : State} {P : State → Prop} {a : Answer} (h : a.RefusedOr s P) (notOk : a.code ≠ .ok) :
    a = refusal s a.code := by
  obtain ⟨code, rfl⟩ | ⟨after, body, rfl, -⟩ := h
  · rfl
  · exact absurd rfl notOk

/-- A property of s that every accepted work keeps holds after any answer. -/
theorem after {s : State} {P : State → Prop} {a : Answer} (h : a.RefusedOr s P) (held : P s) : P a.after := by
  obtain ⟨code, rfl⟩ | ⟨after, body, rfl, allowed⟩ := h
  · exact held
  · exact allowed

end Answer.RefusedOr

namespace State

theorem readEntryAnswer_refusedOr (s : State) (handle : Byte) :
    (⟨s, (s.readEntryAnswer handle).1, (s.readEntryAnswer handle).2⟩ : Answer).RefusedOr s s.PortStands := by
  unfold readEntryAnswer
  split
  · exact .refused _
  · split
    · exact .accepted _ (.refl s)
    · exact .refused _

theorem readScheduleAnswer_refusedOr (s : State) (position : Byte) :
    (⟨s, (s.readScheduleAnswer position).1, (s.readScheduleAnswer position).2⟩ : Answer).RefusedOr s s.PortStands := by
  unfold readScheduleAnswer
  split
  · exact .refused _
  · split
    · exact .accepted _ (.refl s)
    · exact .refused _

theorem readPeerAnswer_refusedOr (s : State) (station : Byte) :
    (⟨s, (s.readPeerAnswer station).1, (s.readPeerAnswer station).2⟩ : Answer).RefusedOr s s.PortStands := by
  unfold readPeerAnswer
  split
  · exact .accepted _ (.refl s)
  · exact .refused _

theorem readLogAnswer_refusedOr (s : State) (age : Byte) :
    (⟨s, (s.readLogAnswer age).1, (s.readLogAnswer age).2⟩ : Answer).RefusedOr s s.PortStands := by
  unfold readLogAnswer
  split
  · exact .refused _
  · split
    · exact .accepted _ (.refl s)
    · exact .refused _

theorem popAnswer_refusedOr (s : State) : s.popAnswer.RefusedOr s s.PortStands := by
  unfold popAnswer
  split
  · exact .accepted _ (.of_standing rfl)
  · exact .refused _

/-- CONFIGURE is accepted while the configuration is not frozen alone (R186). -/
theorem configureAnswer_refusedOr (s : State) (ident : Byte) (value : Nat) :
    (s.configureAnswer ident value).RefusedOr s fun t => t.pending = s.pending ∧ s.port.frozen = false := by
  unfold configureAnswer
  split
  · exact .refused _
  · split_ifs with named frozen
    case neg => exact .accepted _ ⟨rfl, by simpa using frozen⟩
    all_goals exact .refused _

theorem maskAnswer_refusedOr (s : State) (mask enables : Byte) :
    (s.maskAnswer mask enables).RefusedOr s s.PortStands := by
  unfold maskAnswer
  split
  · exact .accepted _ (.of_standing rfl)
  all_goals exact .refused _

theorem clearAnswer_refusedOr (s : State) (alertFlags corrFlags : Byte) :
    (s.clearAnswer alertFlags corrFlags).RefusedOr s s.PortStands := by
  unfold clearAnswer
  split
  · exact .accepted _ (.of_standing rfl)
  all_goals exact .refused _

theorem joinAnswer_refusedOr (s : State) : s.joinAnswer.RefusedOr s s.PortStands := by
  unfold joinAnswer
  split
  · exact .refused _
  · exact .accepted _ (acceptJoin_portStands s)

theorem leaveSecureAnswer_refusedOr (s : State) (mode : Byte) :
    (s.leaveSecureAnswer mode).RefusedOr s s.PortStands := by
  have dropped : s.PortStands s.dropMarker := .of_standing rfl
  unfold leaveSecureAnswer
  split_ifs
  · exact .refused _
  · exact .refused _
  · exact .accepted _ (dropped.trans (leaveSecurely_portStands _ _))

theorem leaveFastAnswer_refusedOr (s : State) : s.leaveFastAnswer.RefusedOr s s.PortStands := by
  have dropped : s.PortStands s.dropMarker := .of_standing rfl
  unfold leaveFastAnswer
  split
  · exact .refused _
  · exact .accepted _ (dropped.trans (leaveFast_portStands _ _))

theorem scheduleAnswer_refusedOr (s : State) (p : TriggerParams) (options : Byte) :
    (s.scheduleAnswer p options).RefusedOr s s.PortStands := by
  unfold scheduleAnswer
  repeat' split
  case h_2 => exact .accepted _ (.of_standing rfl)
  all_goals exact .refused _

theorem proposeAnswer_refusedOr (s : State) (p : TriggerParams) : (s.proposeAnswer p).RefusedOr s s.PortStands := by
  unfold proposeAnswer
  repeat' split
  case h_2.isFalse.isFalse.isFalse => exact .accepted _ (.of_offSchedule (makeProposal_offSchedule _ _ _ _))
  all_goals exact .refused _

theorem cancelAnswer_refusedOr (s : State) (handle : Byte) : (s.cancelAnswer handle).RefusedOr s s.PortStands := by
  unfold cancelAnswer
  split
  · exact .refused _
  · split
    · exact .accepted _ (.of_offSchedule (cancelEntry_offSchedule _ _ _))
    · exact .refused _

theorem releaseAnswer_refusedOr (s : State) (station : Nat) :
    (s.releaseAnswer station).RefusedOr s s.PortStands := by
  unfold releaseAnswer
  split
  · exact .refused _
  · split
    · exact .accepted _ (updatePeer_portStands _ _ _ _)
    · exact .refused _

end State

/-- Every command but CONFIGURE is refused, or leaves the port standing. -/
theorem commandWork_refusedOr {c : Instr} {code : Byte} {act : State → Answer}
    (work : commandWork c = some (code, act)) (noConfigure : ∀ ident value, c ≠ .configure ident value) (s : State) :
    (act s).RefusedOr s s.PortStands := by
  cases c with
  | configure ident value => exact absurd rfl (noConfigure ident value)
  | readStatus | readConfig | readTime => cases work; exact .accepted _ (.refl s)
  | readEntry => cases work; exact State.readEntryAnswer_refusedOr s _
  | readSchedule => cases work; exact State.readScheduleAnswer_refusedOr s _
  | readPeer => cases work; exact State.readPeerAnswer_refusedOr s _
  | readLog => cases work; exact State.readLogAnswer_refusedOr s _
  | popEvent => cases work; exact State.popAnswer_refusedOr s
  | setAlertMask => cases work; exact State.maskAnswer_refusedOr s _ _
  | clear => cases work; exact State.clearAnswer_refusedOr s _ _
  | join => cases work; exact State.joinAnswer_refusedOr s
  | leaveSecure => cases work; exact State.leaveSecureAnswer_refusedOr s _
  | leaveFast => cases work; exact State.leaveFastAnswer_refusedOr s
  | schedule => cases work; exact State.scheduleAnswer_refusedOr s _ _
  | propose => cases work; exact State.proposeAnswer_refusedOr s _
  | cancel => cases work; exact State.cancelAnswer_refusedOr s _
  | release => cases work; exact State.releaseAnswer_refusedOr s _
  | unknownCommand => cases work; exact .refused _
  | _ => cases work

/-- Every command answered with a code other than OK was refused. -/
theorem commandWork_eq_refusal {c : Instr} {code : Byte} {act : State → Answer}
    (work : commandWork c = some (code, act)) {s : State} (notOk : (act s).code ≠ .ok) :
    act s = refusal s (act s).code := by
  by_cases configures : ∃ ident value, c = .configure ident value
  · obtain ⟨ident, value, rfl⟩ := configures
    cases work
    exact (s.configureAnswer_refusedOr ident value.toNat).eq_refusal notOk
  · exact (commandWork_refusedOr work (fun ident value same => configures ⟨ident, value, same⟩) s).eq_refusal notOk

/-- Settles O5: the serial and the holder are the port's own, and a refusal is the state with a code. -/
theorem refusedCommandsChangeNothing : Obligations.RefusedCommandsChangeNothing := by
  intro c s t takes sends noRestart run
  obtain ⟨⟨code, act⟩, work⟩ := Option.isSome_iff_exists.1 (show (commandWork c).isSome = true by
    rw [commandWork_isSome, sends, noRestart]; rfl)
  rw [exec_of_commandWork work, State.command_takes takes] at run
  cases run
  refine ⟨rfl, rfl, fun notOk => ⟨paramBytes code, ?_⟩⟩
  have refused := commandWork_eq_refusal work notOk
  calc s.respond code (act s)
      = s.respond code (refusal s (act s).code) := by rw [← refused]
    _ = s.declined code (paramBytes code) (act s).code := State.respond_eq_answered rfl rfl

/-! ## What every row leaves of the port (R182, R187) -/

namespace State

theorem transaction_portStands {s : State} {take : State → State} (taken : s.PortStands (take s)) :
    s.PortStands (s.transaction take) :=
  .ite (.refl s) (.ite (.of_standing rfl) taken)

theorem transaction_pending {s : State} {take : State → State} (taken : (take s).pending = s.pending) :
    (s.transaction take).pending = s.pending := by
  unfold transaction
  split_ifs
  · rfl
  · rfl
  · exact taken

end State

/-- Every row but CONFIGURE and those of a start answers a next state, in which the port stands. -/
theorem exec_portStands {c : Instr} (s : State) (noRestart : isRestart c = false) (noStart : isStartRow c = false)
    (noConfigure : ∀ ident value, c ≠ .configure ident value) : ∃ t, exec c s = .next t ∧ s.PortStands t := by
  have running : ∀ {u : State}, s.PortStands u → s.PortStands (if s.running then u else s) :=
    fun acted => .ite acted (.refl s)
  by_cases transacts : isTransaction c = true
  · obtain ⟨code, act, work⟩ | ⟨pins, rfl⟩ | ⟨count, rfl⟩ | ⟨count, rfl⟩ := isTransaction_cases transacts
    · have acted := (commandWork_refusedOr work noConfigure s).after (.refl s)
      have answered : (act s).after.PortStands (s.respond code (act s)) := .of_standing rfl
      exact ⟨_, exec_of_commandWork work s, State.transaction_portStands (acted.trans answered)⟩
    · cases noRestart
    all_goals exact ⟨_, rfl, State.transaction_portStands (.of_standing rfl)⟩
  · cases c with
    | powerOn | resetnFall | startEnd => cases noStart
    | holdAssertion =>
      have raised : s.PortStands { s with port.holdLevel := true } := .of_standing rfl
      exact ⟨_, rfl, .ite (raised.trans (State.holdAsserted_portStands _)) (.refl s)⟩
    | holdRelease =>
      have lowered : s.PortStands { s with port.holdLevel := false } := .of_standing rfl
      exact ⟨_, rfl, .ite (lowered.trans (.ite (State.joinUnasked_portStands _) (.refl _))) (.refl s)⟩
    | capEdge input => exact ⟨_, rfl, running (State.captureEdge_portStands s input)⟩
    | frameEnd | receiveTimeout => exact ⟨_, rfl, running (State.endFrame_portStands s _ _ _)⟩
    | overdrive =>
      change ∃ t, execOverdrive s = .next t ∧ s.PortStands t
      unfold execOverdrive
      split
      · exact ⟨_, rfl, running (State.cutByOverdrive_portStands s _)⟩
      · exact ⟨s, rfl, .refl s⟩
    | beaconSentWhole =>
      change ∃ t, execBeaconSentWhole s = .next t ∧ s.PortStands t
      unfold execBeaconSentWhole
      split
      · exact ⟨_, rfl, running (State.sentWhole_portStands s _)⟩
      · exact ⟨s, rfl, .refl s⟩
    | ownSendInstant => exact ⟨_, rfl, running (State.takeOwnSend_portStands s)⟩
    | windowClose => exact ⟨_, rfl, running (State.takeWindowClose_portStands s)⟩
    | epochClose => exact ⟨_, rfl, running (State.takeEpochClose_portStands s)⟩
    | slewPoint => exact ⟨_, rfl, running (State.takeSlewRow_portStands s)⟩
    | triggerFire handle => exact ⟨_, rfl, running (.of_offSchedule (State.fireIfDue_offSchedule s handle))⟩
    | sharedDeadline handle => exact ⟨_, rfl, running (.of_offSchedule (State.deadlineIfDue_offSchedule s handle))⟩
    | listenDeadline => exact ⟨_, rfl, running (State.takeListenDeadline_portStands s)⟩
    | declinedExpiry => exact ⟨_, rfl, running (.of_offSchedule (State.takeExpiries_offSchedule s))⟩
    | pulseEnd | startOfFrame => exact ⟨_, rfl, .ite (.of_standing rfl) (.refl s)⟩
    | referencePeriod stop =>
      exact ⟨_, rfl, running ((State.beginPeriod_portStands s).trans (State.runPeriod_portStands 128 stop _))⟩
    | _ => exact absurd rfl transacts

/-- CONFIGURE keeps the waiting commands, and a frozen configuration whole (R186, R187). -/
theorem exec_configure_frozen (ident : Byte) (value : BitVec 16) (s : State) :
    ∃ t, exec (.configure ident value) s = .next t ∧ t.pending = s.pending ∧
      (s.port.frozen = true → s.PortStands t) := by
  have work : commandWork (.configure ident value) = some (0x20, fun s => s.configureAnswer ident value.toNat) := rfl
  have answers := s.configureAnswer_refusedOr ident value.toNat
  refine ⟨_, exec_of_commandWork work s, State.transaction_pending ?_, fun frozen => State.transaction_portStands ?_⟩
  · exact (answers.mono (Q := fun t => t.pending = s.pending) fun _ accepted => accepted.1).after rfl
  · have refused := answers.mono (Q := s.PortStands) fun t accepted => by simp [frozen] at accepted
    exact (refused.after (.refl s)).trans (.of_standing rfl)

/-- Settles O13: CONFIGURE alone, of all rows but those of a start, can move the configuration, and not a frozen one. -/
theorem frozenConfigurationStands : Obligations.FrozenConfigurationStands := by
  intro c s t run noRestart noStart
  by_cases configures : ∃ ident value, c = .configure ident value
  · obtain ⟨ident, value, rfl⟩ := configures
    obtain ⟨u, configured, -, stands⟩ := exec_configure_frozen ident value s
    obtain rfl : u = t := by simpa using configured.symm.trans run
    exact ⟨fun frozen => ⟨(stands frozen).frozen frozen, (stands frozen).config⟩,
      fun other => absurd rfl (other ident value)⟩
  · obtain ⟨u, ran, stands⟩ :=
      exec_portStands s noRestart noStart fun ident value same => configures ⟨ident, value, same⟩
    obtain rfl : u = t := by simpa using ran.symm.trans run
    exact ⟨fun frozen => ⟨stands.frozen frozen, stands.config⟩, fun _ => stands.config⟩

/-- Settles O2: the rows of a start keep the waiting commands too. -/
theorem everyCommandCompletesAndKeepsTheQueue : Obligations.EveryCommandCompletesAndKeepsTheQueue := by
  intro c s
  have stands : ∀ {c : Instr}, isRestart c = false → isStartRow c = false →
      (∀ ident value, c ≠ .configure ident value) → ∃ t, exec c s = .next t ∧ t.pending = s.pending := by
    intro c noRestart noStart noConfigure
    obtain ⟨t, run, stands⟩ := exec_portStands s noRestart noStart noConfigure
    exact ⟨t, run, stands.pending⟩
  cases c with
  | powerOn | resetnFall => exact ⟨_, rfl, rfl⟩
  | startEnd pins csnLow =>
    refine ⟨_, rfl, ?_⟩
    split
    · exact State.finishStart_pending s _ pins csnLow
    · rfl
  | restart pins => exact ⟨_, rfl, State.transaction_pending (State.finishStart_pending s .command pins false)⟩
  | configure ident value =>
    obtain ⟨t, run, pending, -⟩ := exec_configure_frozen ident value s
    exact ⟨t, run, pending⟩
  | _ => exact stands rfl rfl nofun

end Sys2Proof.Machine
end

section
/-!
What READ STATUS, READ CONFIG, READ TIME, SET ALERT MASK and CONFIGURE answer, and the parameters of the configuration
store with their identifiers, ranges, defaults and codes (R41, R183 to R186, R190).
-/
namespace Sys2Proof.Machine

/-! ## READ STATUS, READ CONFIG and READ TIME (R41, R183, R184) -/

/-- Settles O6: the three records are the ones that the statement writes out. -/
theorem readStatusConfigAndTimeReportEveryBlock : Obligations.ReadStatusConfigAndTimeReportEveryBlock :=
  ⟨fun _ takes => exec_answers (c := .readConfig) takes rfl rfl rfl rfl,
    fun _ takes => exec_answers (c := .readStatus) takes rfl rfl rfl rfl,
    fun _ takes => exec_answers (c := .readTime) takes rfl rfl rfl rfl⟩

/-! ## SET ALERT MASK (R190) -/

namespace State

/-- Two bytes that name flags alone are taken as the mask and the enables. -/
theorem maskAnswer_named (s : State) {mask enables : Byte} (alerts : mask.toNat < 32) (flags : enables.toNat < 32) :
    s.maskAnswer mask enables =
      answerOk { s with port.mask := .ofBits mask, port.enables := .ofBits enables }
        (.masks (.ofBits mask) (.ofBits enables)) := by
  simp only [maskAnswer, alertSetOf, corrFlagsOf, alerts, flags, if_true]

/-- A byte with one of bits 5 to 7 set names no flags, and neither set is replaced. -/
theorem maskAnswer_unnamed (s : State) {mask enables : Byte} (unnamed : 32 ≤ mask.toNat ∨ 32 ≤ enables.toNat) :
    s.maskAnswer mask enables = refusal s .invalid := by
  unfold maskAnswer
  split
  case h_1 alerts flags =>
    simp only [alertSetOf, corrFlagsOf, Option.ite_none_right_eq_some] at alerts flags
    omega
  all_goals rfl

end State

/-- Settles O14: both bytes name sets, or one does not. -/
theorem setAlertMaskReplacesBothSets : Obligations.SetAlertMaskReplacesBothSets := by
  intro s mask enables takes
  refine ⟨fun alerts flags => ⟨_, _, rfl, rfl, ?_⟩, fun unnamed => ?_⟩
  · exact exec_answers takes rfl rfl (s.maskAnswer_named alerts flags) rfl
  · exact exec_answers takes rfl rfl (s.maskAnswer_unnamed unnamed) rfl

/-! ## The parameters (R185, 10.5) -/

/-- The lowest and the highest value that CONFIGURE accepts for a parameter (R185). -/
def Param.range : Param → Nat × Nat
  | .lineDelay => (0, 2000)
  | .trimCount | .rounding | .edge0 | .edge1 => (0, 3)
  | .gain => (0, 64)
  | .lockWindow | .unlockBound | .stepThreshold | .admitBound | .outlierBound => (10, 32000)
  | .slewMax => (10, 1000)
  | .admitCount | .missLimit => (1, 16)
  | .frameThreshold | .outlierThreshold | .viewThreshold => (4, 255)
  | .level0 | .level1 | .level2 | .level3 => (0, 1)
  | .holdReaction => (0, 2)

theorem Param.accepts_eq (p : Param) (value : Nat) :
    p.accepts value = decide (p.range.1 ≤ value ∧ value ≤ p.range.2) := by
  cases p <;> exact decide_eq_decide.2 (by simp [Param.range, Nat.lt_succ_iff])

/-- A value in a parameter's range names something for it (R185, R186). -/
theorem Param.names_of_accepts {p : Param} {value : Nat} (accepted : p.accepts value = true) :
    p.names value = true := by
  cases p
  case rounding | level0 | level1 | level2 | level3 | edge0 | edge1 | holdReaction => exact accepted
  all_goals rfl

theorem Param.names_iff (p : Param) (value : Nat) : p.names value = true ↔
    (p = .rounding → value < 4) ∧ (p = .level0 ∨ p = .level1 ∨ p = .level2 ∨ p = .level3 → value < 2) ∧
      (p = .edge0 ∨ p = .edge1 → value < 4) ∧ (p = .holdReaction → value < 3) := by
  cases p <;> simp [Param.names]

/-- Beyond the 22 identifiers there is no parameter (10.5). -/
theorem paramOf_eq_none {ident : Byte} (outside : ident = 0 ∨ 22 < ident.toNat) : paramOf ident = none := by
  unfold paramOf
  split
  · rfl
  · have beyond : allParams.length ≤ ident.toNat - 1 := by
      have count : allParams.length = 22 := rfl
      have above : 22 < ident.toNat := outside.resolve_left ‹_›
      omega
    exact List.getElem?_eq_none beyond

/-! ## CONFIGURE (R186) -/

namespace State

section
variable {s : State} {ident : Byte} {value : Nat} {p : Param}

theorem configureAnswer_unknown (unknown : paramOf ident = none) :
    s.configureAnswer ident value = refusal s .invalid := by
  rw [configureAnswer, unknown]

section
variable (known : paramOf ident = some p)
include known

/-- The checks of CONFIGURE on a known identifier, in their order. -/
theorem configureAnswer_known : s.configureAnswer ident value =
    if !(p.names value) then refusal s .invalid
    else if s.port.frozen then refusal s .frozen
    else if s.sync.state ≠ .dormant then refusal s .state
    else if !(p.accepts value) then refusal s .invalid
    else answerOk (s.configureParam p value) (.parameter ident value) := by
  rw [configureAnswer, known]

theorem configureAnswer_unnamed (unnamed : p.names value = false) :
    s.configureAnswer ident value = refusal s .invalid := by
  simp [configureAnswer_known known, unnamed]

variable (named : p.names value = true)
include named

theorem configureAnswer_frozen (frozen : s.port.frozen = true) :
    s.configureAnswer ident value = refusal s .frozen := by
  simp [configureAnswer_known known, named, frozen]

variable (unfrozen : s.port.frozen = false)
include unfrozen

theorem configureAnswer_awake (awake : s.sync.state ≠ .dormant) :
    s.configureAnswer ident value = refusal s .state := by
  simp [configureAnswer_known known, named, unfrozen, awake]

variable (dormant : s.sync.state = .dormant)
include dormant

theorem configureAnswer_outside (outside : p.accepts value = false) :
    s.configureAnswer ident value = refusal s .invalid := by
  simp [configureAnswer_known known, named, unfrozen, dormant, outside]

theorem configureAnswer_accepted (accepted : p.accepts value = true) :
    s.configureAnswer ident value = answerOk (s.configureParam p value) (.parameter ident value) := by
  simp [configureAnswer_known known, named, unfrozen, dormant, accepted]

end
end

end State

/-- CONFIGURE taken: the answer to what its checks leave. -/
theorem exec_configure {s after : State} {ident : Byte} {value : BitVec 16} {code : ResponseCode} {body : ResponseBody}
    (takes : s.takes = true) (answers : s.configureAnswer ident value.toNat = ⟨after, code, body⟩)
    (serial : after.port.serial = s.port.serial) :
    exec (.configure ident value) s = .next (after.answered 0x20 3 code body) :=
  exec_answers takes rfl rfl answers serial

/-- The 22 parameters: identifier, lowest and highest value, default (R185, 10.5). -/
theorem paramOf_rows : ∀ row ∈ ([(1, 0, 2000, 0), (2, 0, 3, 1), (3, 0, 64, 16), (4, 0, 3, 0), (5, 10, 32000, 100),
    (6, 10, 32000, 500), (7, 10, 32000, 1000), (8, 10, 1000, 200), (9, 1, 16, 4), (10, 10, 32000, 1000),
    (11, 10, 32000, 1000), (12, 1, 16, 3), (13, 4, 255, 24), (14, 4, 255, 24), (15, 4, 255, 24), (16, 0, 1, 0),
    (17, 0, 1, 0), (18, 0, 1, 0), (19, 0, 1, 0), (20, 0, 3, 0), (21, 0, 3, 0), (22, 0, 2, 0)] :
      List (Nat × Nat × Nat × Nat)),
    ∃ p ∈ allParams, paramOf (BitVec.ofNat 8 row.1) = some p ∧ ConfigStore.defaults.get p = row.2.2.2 ∧
      p.range = (row.2.1, row.2.2.1) := by
  decide

/-- Settles O12: the checks one by one, the store by its parameters, and the tables of 10.5 row by row. -/
theorem configureSetsOneParameter : Obligations.ConfigureSetsOneParameter := by
  refine ⟨fun s ident value takes => ⟨fun unknown => ?_, fun p known => ⟨fun unnamed => ?_, fun named frozen => ?_,
    fun named unfrozen awake => ?_, fun named unfrozen dormant outside => ?_, fun unfrozen dormant accepted => ?_⟩⟩,
    fun row listed => ?_, fun ident outside => paramOf_eq_none outside, by decide, Param.names_iff, fun c => ?_⟩
  · exact exec_configure takes (State.configureAnswer_unknown unknown) rfl
  · exact exec_configure takes (State.configureAnswer_unnamed known unnamed) rfl
  · exact exec_configure takes (State.configureAnswer_frozen known named frozen) rfl
  · exact exec_configure takes (State.configureAnswer_awake known named unfrozen awake) rfl
  · exact exec_configure takes (State.configureAnswer_outside known named unfrozen dormant outside) rfl
  · have named := Param.names_of_accepts accepted
    refine ⟨s.port.config.set p value.toNat, s.port.config.get_set_self accepted,
      fun q other => s.port.config.get_set_of_ne _ other, ?_⟩
    exact exec_configure takes (State.configureAnswer_accepted known named unfrozen dormant accepted) rfl
  · obtain ⟨p, -, known, default, range⟩ := paramOf_rows row listed
    refine ⟨p, known, default, fun value => ?_⟩
    rw [p.accepts_eq, range]
  · have rounding : ∀ r : Rounding, roundingCodes.idxOf r =
        (match r with | .nearestEven => 0 | .towardZero => 1 | .down => 2 | .up => 3) := fun r => by cases r <;> rfl
    have level : ∀ l : ActiveLevel, levelCodes.idxOf l = (match l with | .high => 0 | .low => 1) :=
      fun l => by cases l <;> rfl
    have edge : ∀ e : EdgeSelection, edgeCodes.idxOf e =
        (match e with | .off => 0 | .rise => 1 | .fall => 2 | .both => 3) := fun e => by cases e <;> rfl
    have reaction : ∀ r : HoldReaction, reactionCodes.idxOf r =
        (match r with | .none => 0 | .secure => 1 | .fast => 2) := fun r => by cases r <;> rfl
    refine ⟨⟨rfl, rfl, rfl, rfl, rfl, rfl, rfl, rfl, rfl, rfl, rfl, rfl, rfl, rfl⟩, rounding c.rounding, ?_, ?_,
      reaction c.holdReaction⟩
    · simp only [List.forall_mem_cons]
      exact ⟨level c.level0, level c.level1, level c.level2, level c.level3, nofun⟩
    · simp only [List.forall_mem_cons]
      exact ⟨edge c.edge0, edge c.edge1, nofun⟩

end Sys2Proof.Machine
end

section
/-!
The bytes and the bits of a transaction: what whole bytes a run of bits holds, and that the bytes sent for a command are
read back as it (R178, R179, R181, R202, 10.5).
-/
namespace Sys2Proof

/-! ## Bits and whole bytes (R202) -/

/-- A byte travels most significant bit first. -/
theorem byteBits_eq (b : Byte) : byteBits b = [b.getLsbD 7, b.getLsbD 6, b.getLsbD 5, b.getLsbD 4, b.getLsbD 3,
    b.getLsbD 2, b.getLsbD 1, b.getLsbD 0] := rfl

@[simp] theorem flatMap_byteBits_length (bytes : List Byte) : (bytes.flatMap byteBits).length = 8 * bytes.length := by
  simp [List.length_flatMap, Nat.mul_comm]

/-- Fewer than 8 bits are no whole byte. -/
theorem wholeBytes_short {part : List Bool} (short : part.length < 8) : wholeBytes part = [] := by
  simp [wholeBytes, Nat.div_eq_of_lt short]

/-- The first 8 bits are the first byte. -/
theorem wholeBytes_append {first : List Bool} (eight : first.length = 8) (rest : List Bool) :
    wholeBytes (first ++ rest) = byteOf first :: wholeBytes rest := by
  have count : (first ++ rest).length / 8 = rest.length / 8 + 1 := by
    rw [List.length_append, eight]
    omega
  have behind : ∀ i, (first ++ rest).drop (8 * (i + 1)) = rest.drop (8 * i) := fun i => by
    rw [Nat.mul_succ, Nat.add_comm, ← eight, List.drop_length_add_append]
  unfold wholeBytes
  rw [count, List.range_succ_eq_map, List.map_cons, List.map_map]
  simp only [Nat.mul_zero, List.drop_zero, List.take_left' eight, Function.comp_def, Nat.succ_eq_add_one, behind]

/-- Whole bytes are read back, and a partial last byte counts as not received (R178, R202). -/
theorem wholeBytes_flatMap (bytes : List Byte) {part : List Bool} (short : part.length < 8) :
    wholeBytes (bytes.flatMap byteBits ++ part) = bytes := by
  induction bytes with
  | nil => exact wholeBytes_short short
  | cons b bytes ih =>
    rw [List.flatMap_cons, List.append_assoc, wholeBytes_append (byteBits_length b), byteOf_byteBits, ih]

/-- The first bits of whole bytes are the first bytes, and a part of the next. -/
theorem take_flatMap_byteBits (bytes : List Byte) (n : Nat) : ∃ part : List Bool, part.length < 8 ∧
    (bytes.flatMap byteBits).take n = (bytes.take (n / 8)).flatMap byteBits ++ part := by
  refine ⟨((bytes.drop (n / 8)).flatMap byteBits).take (n - 8 * (bytes.take (n / 8)).length), ?_, ?_⟩
  · simp only [List.length_take, flatMap_byteBits_length, List.length_drop]
    omega
  · conv_lhs => rw [← List.take_append_drop (n / 8) bytes, List.flatMap_append, List.take_append]
    rw [List.take_of_length_le (by simp only [flatMap_byteBits_length, List.length_take]; omega),
      flatMap_byteBits_length]

/-! ## Numbers of several bytes (R202) -/

theorem word16_bytes16 (w : BitVec 16) : word16 (w.extractLsb' 8 8) (w.extractLsb' 0 8) = w :=
  (BitVec.extractLsb'_append_extractLsb'_eq_extractLsb' rfl).trans BitVec.extractLsb'_eq_self

theorem word24_bytes24 (w : BitVec 24) :
    word24 (w.extractLsb' 16 8) (w.extractLsb' 8 8) (w.extractLsb' 0 8) = w := by
  have low : w.extractLsb' 8 8 ++ w.extractLsb' 0 8 = w.extractLsb' 0 16 :=
    BitVec.extractLsb'_append_extractLsb'_eq_extractLsb' rfl
  rw [word24, low]
  exact (BitVec.extractLsb'_append_extractLsb'_eq_extractLsb' rfl).trans BitVec.extractLsb'_eq_self

theorem word32_bytes32 (w : BitVec 32) :
    word32 (w.extractLsb' 24 8) (w.extractLsb' 16 8) (w.extractLsb' 8 8) (w.extractLsb' 0 8) = w := by
  have low : w.extractLsb' 8 8 ++ w.extractLsb' 0 8 = w.extractLsb' 0 16 :=
    BitVec.extractLsb'_append_extractLsb'_eq_extractLsb' rfl
  have middle : w.extractLsb' 16 8 ++ w.extractLsb' 0 16 = w.extractLsb' 0 24 :=
    BitVec.extractLsb'_append_extractLsb'_eq_extractLsb' rfl
  rw [word32, low, middle]
  exact (BitVec.extractLsb'_append_extractLsb'_eq_extractLsb' rfl).trans BitVec.extractLsb'_eq_self

/-- The parameters that SCHEDULE and PROPOSE share are read back from their 14 bytes, whatever follows (10.5). -/
theorem triggerParamsOf_triggerBytes (p : TriggerParams) (rest : List Byte) :
    triggerParamsOf (triggerBytes p ++ rest) = p := by
  calc triggerParamsOf (triggerBytes p ++ rest)
      = ⟨word32 (p.targetEpoch.extractLsb' 24 8) (p.targetEpoch.extractLsb' 16 8) (p.targetEpoch.extractLsb' 8 8)
            (p.targetEpoch.extractLsb' 0 8),
          word24 (p.targetPosition.extractLsb' 16 8) (p.targetPosition.extractLsb' 8 8)
            (p.targetPosition.extractLsb' 0 8),
          word16 (p.width.extractLsb' 8 8) (p.width.extractLsb' 0 8), p.lines,
          word16 (p.period.extractLsb' 8 8) (p.period.extractLsb' 0 8),
          word16 (p.repeats.extractLsb' 8 8) (p.repeats.extractLsb' 0 8)⟩ := rfl
    _ = p := by simp only [word32_bytes32, word24_bytes24, word16_bytes16]

/-! ## Commands and their bytes (R178, R181, 10.5) -/

/-- A code that 10.5 does not list is none of the listed ones. -/
theorem unlisted_code {code : Byte} (unlisted : wellFormed (.unknownCommand code) = true) (known : Nat)
    (listed : known ∈ knownCodes.map BitVec.toNat) : code.toNat ≠ known := by
  have absent : code ∉ knownCodes := by simpa [wellFormed] using unlisted
  obtain ⟨other, among, rfl⟩ := List.mem_map.1 listed
  exact fun same => absent (BitVec.eq_of_toNat_eq same ▸ among)

/-- An unlisted code requires no parameter byte. -/
theorem paramBytes_unlisted {code : Byte} (unlisted : wellFormed (.unknownCommand code) = true) :
    paramBytes code = 0 := by
  unfold paramBytes
  split
  case h_13 => rfl
  all_goals
    rename_i same
    exact absurd same (unlisted_code unlisted _ (by decide))

/-- An unlisted code is read as no command, and is none's (R181). -/
theorem commandOf_unlisted {code : Byte} (unlisted : wellFormed (.unknownCommand code) = true) (pins : Pins)
    (ps : List Byte) : commandOf pins code ps = .unknownCommand code := by
  unfold commandOf
  simp only []
  split
  case h_19 => rfl
  all_goals
    rename_i same
    exact absurd same (unlisted_code unlisted _ (by decide))

/-- The bytes of a command: a code other than RESPONSE's and the parameter bytes that it requires, from which the
command is read back, whatever follows. -/
theorem encodeTransaction_spec {pins : Pins} {c : Instr} {bytes : List Byte} (formed : wellFormed c = true)
    (sends : encodeTransaction c = some bytes) (sampled : ∀ levels, c = .restart levels → levels = pins) :
    ∃ code params, bytes = code :: params ∧ code ≠ 0x00 ∧ params.length = paramBytes code ∧
      ∀ extra, commandOf pins code (params ++ extra) = c := by
  cases c with
  | readStatus | readConfig | readTime | readEntry | readSchedule | readPeer | readLog | popEvent | setAlertMask | clear
  | join | leaveFast | cancel | release => cases sends; exact ⟨_, _, rfl, by decide, rfl, fun _ => rfl⟩
  | configure ident value =>
    cases sends
    exact ⟨_, _, rfl, by decide, rfl, fun _ => congrArg (Instr.configure ident) (word16_bytes16 value)⟩
  | leaveSecure mode =>
    cases sends
    have secure : mode ≠ 2 := by simpa [wellFormed] using formed
    exact ⟨_, _, rfl, by decide, rfl, fun _ => if_neg secure⟩
  | restart levels =>
    cases sends
    exact ⟨_, _, rfl, by decide, rfl, fun _ => congrArg Instr.restart (sampled levels rfl).symm⟩
  | schedule params options =>
    cases sends
    refine ⟨0x40, triggerBytes params ++ [options], rfl, by decide, rfl, fun extra => ?_⟩
    rw [List.append_assoc]
    exact congrArg (Instr.schedule · options) (triggerParamsOf_triggerBytes params _)
  | propose params =>
    cases sends
    exact ⟨_, _, rfl, by decide, rfl, fun extra => congrArg Instr.propose (triggerParamsOf_triggerBytes params extra)⟩
  | unknownCommand code =>
    cases sends
    refine ⟨code, [], rfl, ?_, (paramBytes_unlisted formed).symm, commandOf_unlisted formed pins⟩
    rintro rfl
    cases formed
  | _ => cases sends

/-- A code other than RESPONSE's with all of its parameter bytes is its command; with fewer it is discarded (R178). -/
theorem decodeTransaction_cons {code : Byte} (notResponse : code ≠ 0x00) (pins : Pins) (params : List Byte) :
    decodeTransaction pins (code :: params) =
      if params.length < paramBytes code then .transactionDiscarded (params.length + 1)
      else commandOf pins code params :=
  if_neg notResponse

/-- The bytes of a command are read back as it, with any bytes behind them ignored (R178). -/
theorem decodeTransaction_encode {pins : Pins} {c : Instr} {bytes : List Byte} (formed : wellFormed c = true)
    (sends : encodeTransaction c = some bytes) (sampled : ∀ levels, c = .restart levels → levels = pins)
    (extra : List Byte) : decodeTransaction pins (bytes ++ extra) = c := by
  obtain ⟨code, params, rfl, notResponse, count, reads⟩ := encodeTransaction_spec formed sends sampled
  rw [List.cons_append, decodeTransaction_cons notResponse, if_neg, reads]
  rw [List.length_append]
  omega

/-- Fewer bytes than a command's are discarded (R178). -/
theorem decodeTransaction_take {pins : Pins} {c : Instr} {bytes : List Byte} (formed : wellFormed c = true)
    (sends : encodeTransaction c = some bytes) (sampled : ∀ levels, c = .restart levels → levels = pins) {n : Nat}
    (fewer : n < bytes.length) : decodeTransaction pins (bytes.take n) = .transactionDiscarded n := by
  obtain ⟨code, params, rfl, notResponse, count, -⟩ := encodeTransaction_spec formed sends sampled
  cases n with
  | zero => rfl
  | succ n =>
    have missing : n < params.length := by simpa using fewer
    have kept : (params.take n).length = n := List.length_take_of_le missing.le
    rw [List.take_succ_cons, decodeTransaction_cons notResponse, kept, if_pos (count ▸ missing)]

/-! ## Commands and their bits (R178, R202) -/

/-- The bits are read by their whole bytes, but for how many a RESPONSE clocks. -/
theorem decodeSpi_eq {pins : Pins} {bits : List Bool} {c : Instr} (reads : decodeTransaction pins (wholeBytes bits) = c)
    (notResponse : ∀ count, c ≠ .response count) : decodeSpi pins bits = c := by
  unfold decodeSpi
  rw [reads]
  split
  · exact absurd rfl (notResponse _)
  · rfl

theorem decodeSpi_response {pins : Pins} {bits : List Bool} {count : Nat}
    (reads : decodeTransaction pins (wholeBytes bits) = .response count) :
    decodeSpi pins bits = .response ((bits.length - 1) / 8) := by
  unfold decodeSpi
  rw [reads]

/-- Settles O50: by bytes, then by bits through the whole bytes that they hold. -/
theorem transactionRoundTrip : Obligations.TransactionRoundTrip := by
  refine ⟨fun pins c bytes extra formed sends sampled => ⟨decodeTransaction_encode formed sends sampled extra,
      fun n fewer => decodeTransaction_take formed sends sampled fewer⟩,
    fun pins extra => rfl, byteBits_eq, fun bytes part short => wholeBytes_flatMap bytes short,
    fun pins c bytes extra part formed sends sampled short => ⟨?_, fun n fewer => ?_⟩, fun pins extra part short => ?_⟩
  · refine decodeSpi_eq ?_ fun count same => ?_
    · rw [wholeBytes_flatMap _ short]
      exact decodeTransaction_encode formed sends sampled extra
    · rw [same] at sends
      cases sends
  · obtain ⟨part, short, begun⟩ := take_flatMap_byteBits bytes n
    refine decodeSpi_eq ?_ nofun
    rw [begun, wholeBytes_flatMap _ short]
    exact decodeTransaction_take formed sends sampled (by omega)
  · have reads : decodeTransaction pins (wholeBytes ((0x00 :: extra).flatMap byteBits ++ part))
        = .response extra.length := by rw [wholeBytes_flatMap _ short]; rfl
    rw [decodeSpi_response reads, List.length_append, flatMap_byteBits_length, List.length_cons]
    split_ifs with whole
    · simp only [whole, List.length_nil]
      congr 1
      omega
    · have begun := List.length_pos_iff.2 whole
      congr 1
      omega

end Sys2Proof
end

section
/-!
The bytes of a response record against the layout of 10.5: each part of a body is its fields one after another, each
most significant byte first in its width (R180, R201, R202).
-/
namespace Sys2Proof.Machine

/-! ## The bytes and the width of fields in order -/

/-- The bytes of fields in order. -/
def Layout.bytes (l : Layout) : List Byte := l.flatMap fun f => msbFirst f.1 f.2

/-- How many bytes fields occupy. -/
def Layout.width (l : Layout) : Nat := (l.map Prod.fst).sum

namespace Layout

@[simp] theorem bytes_nil : bytes [] = [] := rfl

@[simp] theorem bytes_cons (f : Nat × Int) (l : Layout) : bytes (f :: l) = msbFirst f.1 f.2 ++ bytes l := rfl

@[simp] theorem bytes_append (a b : Layout) : bytes (a ++ b) = a.bytes ++ b.bytes := List.flatMap_append

@[simp] theorem width_nil : width [] = 0 := rfl

@[simp] theorem width_cons (f : Nat × Int) (l : Layout) : width (f :: l) = f.1 + width l := List.sum_cons

@[simp] theorem width_append (a b : Layout) : width (a ++ b) = a.width + b.width := by
  simp [width]

theorem bytes_length (l : Layout) : l.bytes.length = l.width := by
  induction l with
  | nil => rfl
  | cons f l ih => rw [bytes_cons, List.length_append, msbFirst_length, ih, width_cons]

end Layout

@[simp] theorem inOrder_nil : inOrder [] = [] := rfl

@[simp] theorem inOrder_cons (part : Layout) (parts : List Layout) : inOrder (part :: parts) = part ++ inOrder parts :=
  rfl

/-! ## Numbers as bytes (R201) -/

/-- A byte of a number in two's complement is the number there, without what lies below or above. -/
theorem extractLsb'_ofInt {w start : Nat} (inside : start + 8 ≤ w) (n : Int) :
    (BitVec.ofInt w n).extractLsb' start 8 = BitVec.ofInt 8 (n / ((2 ^ start : Nat) : Int)) := by
  obtain ⟨above, rfl⟩ := Nat.exists_eq_add_of_le inside
  have positive : (2 ^ start : Int) ≠ 0 := by positivity
  have value : n % 2 ^ (start + 8 + above) / 2 ^ start % 256 = n / 2 ^ start % 256 := by
    have kept : n % 2 ^ (start + 8 + above)
        = n + 2 ^ start * (256 * -(2 ^ above * (n / 2 ^ (start + 8 + above)))) := by
      rw [Int.emod_def, pow_add, pow_add]
      ring
    rw [kept, Int.add_mul_ediv_left _ _ positive, Int.add_mul_emod_self_left]
  have low : 0 ≤ n % 2 ^ (start + 8 + above) := Int.emod_nonneg _ (by positivity)
  have high : 0 ≤ n / 2 ^ start % 256 := Int.emod_nonneg _ (by decide)
  apply BitVec.eq_of_toNat_eq
  rw [BitVec.extractLsb'_toNat, BitVec.toNat_ofInt, BitVec.toNat_ofInt, Nat.shiftRight_eq_div_pow]
  push_cast
  zify
  rw [Int.toNat_of_nonneg low, Int.toNat_of_nonneg high]
  exact value

@[simp] theorem msbFirst_zero_width (n : Int) : msbFirst 0 n = [] := rfl

theorem byte_eq_msbFirst (n : Int) : [BitVec.ofInt 8 n] = msbFirst 1 n := by
  simp [msbFirst]

theorem bytes16_ofInt (n : Int) : bytes16 (BitVec.ofInt 16 n) = msbFirst 2 n := by
  simp only [bytes16, extractLsb'_ofInt (w := 16) (start := 8) (by decide),
    extractLsb'_ofInt (w := 16) (start := 0) (by decide)]
  rfl

theorem bytes24_ofInt (n : Int) : bytes24 (BitVec.ofInt 24 n) = msbFirst 3 n := by
  simp only [bytes24, extractLsb'_ofInt (w := 24) (start := 16) (by decide),
    extractLsb'_ofInt (w := 24) (start := 8) (by decide), extractLsb'_ofInt (w := 24) (start := 0) (by decide)]
  rfl

theorem bytes32_ofInt (n : Int) : bytes32 (BitVec.ofInt 32 n) = msbFirst 4 n := by
  simp only [bytes32, extractLsb'_ofInt (w := 32) (start := 24) (by decide),
    extractLsb'_ofInt (w := 32) (start := 16) (by decide), extractLsb'_ofInt (w := 32) (start := 8) (by decide),
    extractLsb'_ofInt (w := 32) (start := 0) (by decide)]
  rfl

theorem num8_eq (n : Nat) : num8 n = msbFirst 1 n := by
  rw [num8, ← BitVec.ofInt_natCast, byte_eq_msbFirst]

theorem num16_eq (n : Nat) : num16 n = msbFirst 2 n := by
  rw [num16, ← BitVec.ofInt_natCast, bytes16_ofInt]

theorem num24_eq (n : Nat) : num24 n = msbFirst 3 n := by
  rw [num24, ← BitVec.ofInt_natCast, bytes24_ofInt]

theorem num32_eq (n : Nat) : num32 n = msbFirst 4 n := by
  rw [num32, ← BitVec.ofInt_natCast, bytes32_ofInt]

theorem int16_eq (n : Int) : int16 n = msbFirst 2 n := bytes16_ofInt n

theorem int32_eq (n : Int) : int32 n = msbFirst 4 n := bytes32_ofInt n

theorem bytes32_eq (w : BitVec 32) : bytes32 w = msbFirst 4 w.toNat := by
  rw [← num32_eq, num32, BitVec.ofNat_toNat, BitVec.setWidth_eq]

theorem lineByte_eq (lines : LineSet) : lineByte lines = msbFirst 1 lines.toNat := num8_eq _

/-- A byte in its place is a field of width 1. -/
theorem cons_byte (b : Byte) (l : List Byte) : b :: l = msbFirst 1 b.toNat ++ l := by
  rw [← num8_eq, num8, BitVec.ofNat_toNat, BitVec.setWidth_eq]
  rfl

/-- Zero bytes are a field of 0. -/
theorem replicate_zero (count : Nat) : List.replicate count (0 : Byte) = msbFirst count 0 := by
  simp [msbFirst, List.map_const']

/-! ## Flags as bytes (R201) -/

theorem flagNumber_eq (flags : List Bool) :
    flagNumber flags = ((flags.reverse.foldl (fun n b => 2 * n + b.toNat) 0 : Nat) : Int) := by
  rw [List.foldl_reverse]
  induction flags with
  | nil => rfl
  | cons b flags ih =>
    unfold flagNumber at ih ⊢
    rw [List.foldr_cons, List.foldr_cons, ih]
    push_cast
    ring

/-- The byte of flags carries their number. -/
theorem msbFirst_flagByte (flags : List Bool) :
    msbFirst 1 ((flagByte flags).toNat : Nat) = msbFirst 1 (flagNumber flags) := by
  rw [flagNumber_eq, ← num8_eq, ← num8_eq, num8, BitVec.ofNat_toNat, BitVec.setWidth_eq]
  rfl

theorem AlertSet.toByte_eq (a : AlertSet) :
    a.toByte = flagByte [a.state, a.membership, a.event, a.overflow, a.correction] := by
  obtain ⟨state, membership, event, overflow, correction⟩ := a
  unfold AlertSet.toByte flagByte
  congr 1
  simp only [List.reverse_cons, List.reverse_nil, List.nil_append, List.cons_append, List.foldl_cons, List.foldl_nil]
  ring

theorem CorrFlags.toByte_eq (f : CorrFlags) :
    f.toByte = flagByte [f.inexact, f.empty, f.reduced, f.clamped, f.saturated] := by
  obtain ⟨inexact, empty, reduced, clamped, saturated⟩ := f
  unfold CorrFlags.toByte flagByte
  congr 1
  simp only [List.reverse_cons, List.reverse_nil, List.nil_append, List.cons_append, List.foldl_cons, List.foldl_nil]
  ring

theorem EntryKind.isShared_eq (kind : EntryKind) : kind.isShared = (kind != .localOnly) := by
  cases kind <;> rfl

/-! ## The parts of a body (10.5) -/

theorem optBytes_some {α : Type} (width : Nat) (encode : α → List Byte) (x : α) :
    optBytes width encode (some x) = encode x := rfl

/-- An absent part is a field of 0 (R201). -/
theorem optBytes_none {α : Type} (width : Nat) (encode : α → List Byte) :
    optBytes width encode none = msbFirst width 0 := replicate_zero width

/-- An optional number is a field that is 0 where the number is absent (R201). -/
theorem optBytes_getD {α : Type} {width : Nat} {encode : α → List Byte} {value : α → Int} {zero : α}
    (encodes : ∀ x, encode x = msbFirst width (value x)) (isZero : value zero = 0) (part : Option α) :
    optBytes width encode part = msbFirst width (value (part.getD zero)) := by
  cases part with
  | none => rw [optBytes_none, Option.getD_none, isZero]
  | some x => exact encodes x

theorem stampBytes_eq (t : Stamp) : stampBytes t = (stampLayout t).bytes := by
  simp [stampBytes, stampLayout, bytes32_eq, num24_eq]

theorem kindBytes_eq (kind : EntryKind) : kindBytes kind = (nameLayout kind).bytes := by
  cases kind with
  | localOnly => rfl
  | shared name => simp [kindBytes, nameLayout, num8_eq]

theorem deadlineBytes_eq (deadline : Option Stamp) :
    optBytes 7 stampBytes deadline = (deadlineLayout deadline).bytes := by
  cases deadline with
  | none => rfl
  | some t => exact stampBytes_eq t

theorem entryBytes_eq (e : EntryRecord) : entryBytes e = (entryLayout e).bytes := by
  simp [entryBytes, entryLayout, num8_eq, num16_eq, lineByte_eq, kindBytes_eq, stampBytes_eq, deadlineBytes_eq,
    EntryKind.isShared_eq, cons_byte (flagByte _), msbFirst_flagByte]

theorem offerBytes_eq (offer : Option Offer) : optBytes 15 offerBytes offer = (offerLayout offer).bytes := by
  cases offer with
  | none => rfl
  | some o => simp [optBytes, offerBytes, offerLayout, num8_eq, num16_eq, num24_eq, num32_eq, lineByte_eq]

/-- A held list shows its first four pairs (R201). -/
theorem heldBytes_eq (held : List Pair) :
    heldBytes held = Layout.bytes ((1, (held.length : Int)) :: slotLayout held) := by
  have slots : ((held.flatMap fun (p : Pair) => num8 p.proposer ++ num8 p.tag) ++ List.replicate 8 0).take 8
      = (slotLayout held).bytes := by
    simp only [num8_eq]
    match held with
    | [] | [_] | [_, _] | [_, _, _] | _ :: _ :: _ :: _ :: _ => rfl
  rw [heldBytes, slots, num8_eq]
  rfl

theorem peerBytes_eq (e : Peer) : peerBytes e = (peerLayout e).bytes := by
  have lead : ∀ l : Option Int, optBytes 2 int16 l = msbFirst 2 (l.getD 0) :=
    optBytes_getD (value := id) int16_eq rfl
  have heard : optBytes 4 num32 e.lastHeard = msbFirst 4 (e.lastHeard.getD 0 : Nat) :=
    optBytes_getD (value := fun n : Nat => (n : Int)) num32_eq rfl _
  cases state : e.reportedState <;> cases view : e.reportedView <;>
    simp [peerBytes, peerLayout, lead, heard, state, view, optBytes_some, optBytes_none, bytes32_eq, heldBytes_eq,
      offerBytes_eq, num8_eq, cons_byte, msbFirst_flagByte]

theorem logBytes_eq (r : LogRecord) : logBytes r = (bodyLayout (.log r)).bytes := by
  simp [logBytes, bodyLayout, num8_eq, num32_eq, int16_eq, int32_eq, CorrFlags.toByte_eq, corrNumber,
    cons_byte r.state.byte, cons_byte r.action.byte, cons_byte r.resultClass.byte, cons_byte (flagByte _),
    msbFirst_flagByte]

theorem timeBytes_eq (r : TimeRecord) : timeBytes r = (bodyLayout (.time r)).bytes := by
  simp [timeBytes, bodyLayout, stampBytes_eq, int32_eq, int16_eq, cons_byte r.state.byte]

theorem configBytes_eq (store : ConfigStore) (frozen : Bool) :
    configBytes store frozen = (bodyLayout (.config store frozen)).bytes := by
  have params : (Layout.bytes (allParams.map fun p => (2, (store.get p : Int))))
      = allParams.flatMap fun p => num16 (store.get p) := by
    simp only [Layout.bytes, List.flatMap_map, num16_eq]
  have flag : flagNumber [frozen] = frozen.toNat := by simp [flagNumber]
  simp [configBytes, bodyLayout, params, cons_byte (flagByte _), msbFirst_flagByte, flag]

theorem statusBytes_eq (r : StatusRecord) : statusBytes r = (bodyLayout (.status r)).bytes := by
  cases windows : r.windowCount <;> cases proposal : r.ownProposal <;>
    simp [statusBytes, bodyLayout, windows, proposal, optBytes_some, optBytes_none, num8_eq, num24_eq,
      AlertSet.toByte_eq, alertNumber, CorrFlags.toByte_eq, corrNumber, cons_byte, msbFirst_flagByte]

/-! ## Events (10.5 Event bodies) -/

/-- The fields of an event are filled up with zero bytes. -/
theorem eventBytes_of_length {r : EventRecord} {fill : Nat} (length : (eventFields r).length + fill = 18) :
    eventBytes r = eventFields r ++ msbFirst fill 0 := by
  rw [eventBytes, List.take_append, List.take_of_length_le (by omega), List.take_replicate, replicate_zero]
  congr 2
  omega

theorem stampBytes_length (t : Stamp) : (stampBytes t).length = 7 := rfl

theorem kindBytes_length (kind : EntryKind) : (kindBytes kind).length = 2 := by
  cases kind <;> rfl

theorem eventBytes_eq (r : EventRecord) : eventBytes r = (eventLayout r).bytes := by
  cases r with
  | capture input edge stamp state =>
    rw [eventBytes_of_length (fill := 7) rfl]
    cases edge <;> simp [eventFields, eventLayout, num8_eq, stampBytes_eq, cons_byte]
  | fire handle kind scheduled late skipped =>
    rw [eventBytes_of_length (fill := 4)
      (by simp [eventFields, num8, num16, bytes16, kindBytes_length, stampBytes_length])]
    simp [eventFields, eventLayout, num8_eq, num16_eq, kindBytes_eq, stampBytes_eq, EntryKind.isShared_eq, cons_byte,
      msbFirst_flagByte]
  | armed handle name target view =>
    rw [eventBytes_of_length (fill := 3) rfl]
    simp [eventFields, eventLayout, num8_eq, bytes32_eq, stampBytes_eq, cons_byte]
  | abandoned handle name target reason missing =>
    rw [eventBytes_of_length (fill := 2) rfl]
    cases reason <;> simp [eventFields, eventLayout, num8_eq, bytes32_eq, stampBytes_eq, cons_byte]
  | cancelled handle name state nextFire fired skipped remaining =>
    rw [eventBytes_of_length (fill := 0) rfl]
    cases state <;> simp [eventFields, eventLayout, num8_eq, num16_eq, stampBytes_eq, cons_byte]

/-! ## Whole records (R180, R202) -/

/-- The body of an OK record is its layout. -/
theorem bodyBytes_eq (body : ResponseBody) : bodyBytes body = (bodyLayout body).bytes := by
  cases body with
  | nothing => rfl
  | startCause cause => exact cons_byte cause.byte []
  | status r => exact statusBytes_eq r
  | config store frozen => exact configBytes_eq store frozen
  | time r => exact timeBytes_eq r
  | entry r => exact entryBytes_eq r
  | listed count r => simp [bodyBytes, bodyLayout, num8_eq, entryBytes_eq]
  | peer e => exact peerBytes_eq e
  | log r => exact logBytes_eq r
  | event count r => simp [bodyBytes, bodyLayout, num8_eq, eventBytes_eq]
  | parameter ident value => simp [bodyBytes, bodyLayout, num16_eq, cons_byte ident]
  | masks mask enables =>
    simp [bodyBytes, bodyLayout, AlertSet.toByte_eq, alertNumber, CorrFlags.toByte_eq, corrNumber, cons_byte,
      msbFirst_flagByte]
  | handle handle => exact num8_eq handle
  | handleTag handle tag => simp [bodyBytes, bodyLayout, num8_eq]

theorem stampLayout_width (t : Stamp) : (stampLayout t).width = 7 := rfl

theorem nameLayout_width (kind : EntryKind) : (nameLayout kind).width = 2 := by
  cases kind <;> rfl

theorem deadlineLayout_width (deadline : Option Stamp) : (deadlineLayout deadline).width = 7 := by
  cases deadline <;> rfl

theorem entryLayout_width (e : EntryRecord) : (entryLayout e).width = 31 := by
  simp [entryLayout, nameLayout_width, stampLayout_width, deadlineLayout_width]

theorem slotLayout_width (held : List Pair) : (slotLayout held).width = 8 := by
  match held with
  | [] | [_] | [_, _] | [_, _, _] | _ :: _ :: _ :: _ :: _ => rfl

theorem offerLayout_width (offer : Option Offer) : (offerLayout offer).width = 15 := by
  cases offer <;> rfl

theorem peerLayout_width (e : Peer) : (peerLayout e).width = 44 := by
  simp [peerLayout, slotLayout_width, offerLayout_width]

theorem eventLayout_width (r : EventRecord) : (eventLayout r).width = 18 := by
  cases r <;> simp [eventLayout, nameLayout_width, stampLayout_width]

theorem configLayout_width (store : ConfigStore) (frozen : Bool) : (bodyLayout (.config store frozen)).width = 45 := by
  simp [bodyLayout, allParams]
end Sys2Proof.Machine
end

section
/-!
What SDO carries: the record of a response transaction and fill, bit by bit, as it is driven and as it was once the
transaction has ended; and the transactions that act on nothing (R178, R179, R181, R202).
-/
namespace Sys2Proof.Machine

/-! ## Whole records (R180, R202) -/

theorem responseBytes_eq (r : Response) : responseBytes r = [r.command, BitVec.ofNat 8 r.serial, r.code.byte] ++
    (if r.code = .ok then (bodyLayout r.body).bytes else []) := by
  rw [responseBytes, bodyBytes_eq]

theorem responseBytes_length (r : Response) :
    (responseBytes r).length = 3 + (if r.code = .ok then (bodyLayout r.body).width else 0) := by
  rw [responseBytes_eq, List.length_append]
  split_ifs
  · rw [Layout.bytes_length]
    rfl
  · rfl

/-- How many bytes the body of an OK record has (10.5). -/
def bodyWidth : ResponseBody → Nat
  | .nothing => 0
  | .startCause _ | .handle _ => 1
  | .masks _ _ | .handleTag _ _ => 2
  | .parameter _ _ => 3
  | .time _ => 14
  | .log _ => 18
  | .event _ _ => 19
  | .status _ => 21
  | .entry _ => 31
  | .listed _ _ => 32
  | .peer _ => 44
  | .config _ _ => 45

theorem bodyLayout_width (body : ResponseBody) : (bodyLayout body).width = bodyWidth body := by
  cases body with
  | nothing => rfl
  | startCause | status | log | parameter | masks | handle | handleTag => simp [bodyLayout, bodyWidth]
  | config store frozen => exact configLayout_width store frozen
  | time r => simp [bodyLayout, bodyWidth, stampLayout_width]
  | entry r => exact entryLayout_width r
  | listed count r => simp [bodyLayout, bodyWidth, entryLayout_width]
  | peer e => exact peerLayout_width e
  | event count r => simp [bodyLayout, bodyWidth, eventLayout_width]

/-! ## Bits on SDO (R178, R202) -/

/-- A fill byte is 8 fill bits. -/
theorem fillByte_getMsbD (i : Nat) : (0xFF : Byte).getMsbD (i % 8) = true := by
  have bits : ∀ j : Fin 8, (0xFF : Byte).getMsbD j = true := by decide
  exact bits ⟨i % 8, Nat.mod_lt i (by decide)⟩

/-- The bits of bytes, and fill beyond them. -/
theorem flatMap_byteBits_getD (bytes : List Byte) (i : Nat) :
    (bytes.flatMap byteBits).getD i true = (bytes.getD (i / 8) 0xFF).getMsbD (i % 8) := by
  induction bytes generalizing i with
  | nil => exact (fillByte_getMsbD i).symm
  | cons b bytes ih =>
    rw [List.flatMap_cons]
    by_cases first : i < 8
    · rw [List.getD_append _ _ _ _ (by rwa [byteBits_length]), Nat.div_eq_of_lt first, Nat.mod_eq_of_lt first]
      simp [byteBits, first]
    · obtain ⟨k, rfl⟩ := Nat.exists_eq_add_of_le (Nat.le_of_not_lt first)
      rw [List.getD_append_right _ _ _ _ (by simp), byteBits_length, Nat.add_sub_cancel_left, ih, Nat.add_mod_left,
        Nat.add_div_left k (by decide)]
      rfl

namespace State

/-- What SDO carried at a clock of the last transaction: the bytes held, and fill beyond them. -/
theorem sdoBits_getElem? (s : State) {clocks i : Nat} (inside : i < clocks) :
    (s.sdoBits clocks)[i]? = some ((s.port.sdo.getD (i / 8) 0xFF).getMsbD (i % 8)) := by
  rw [← flatMap_byteBits_getD, sdoBits, List.getElem?_take_of_lt inside]
  by_cases held : i < (s.port.sdo.flatMap byteBits).length
  · rw [List.getElem?_append_left held, List.getD_eq_getElem _ _ held, List.getElem?_eq_getElem held]
  · have beyond := Nat.le_of_not_lt held
    rw [List.getElem?_append_right beyond, List.getD_eq_default _ _ beyond,
      List.getElem?_replicate_of_lt (by omega)]

end State

/-- The bits of a response transaction: its first byte is 0x00 (R179). -/
def asksResponse (sdi : List Bool) : Prop := 8 ≤ sdi.length ∧ sdi.take 8 = List.replicate 8 false

namespace State

/-- What SDO drives with CSn low, while no start is in progress (R178, R179; log 23). -/
theorem sdoLevel_running {s : State} (ended : s.port.starting = none) (sdi : List Bool) [Decidable (asksResponse sdi)] :
    s.sdoLevel true sdi = some
      (if s.port.awaitCsHigh = false ∧ asksResponse sdi then
        ((responseBytes s.port.holder).flatMap byteBits).getD (sdi.length - 8) true
      else true) := by
  have zeros : byteBits 0x00 = List.replicate 8 false := rfl
  unfold sdoLevel
  rw [running_of_not_starting ended, zeros, apply_ite some]
  exact (if_neg (by decide)).trans (if_congr (by simp [asksResponse, and_assoc]) rfl rfl)

/-- Outside a response transaction, in its first byte, and in an ignored one, SDO carries fill (R178; log 23). -/
theorem sdoLevel_fill {s : State} (ended : s.port.starting = none) {sdi : List Bool}
    (fills : s.port.awaitCsHigh = true ∨ ¬ asksResponse sdi) : s.sdoLevel true sdi = some true := by
  classical
  rw [sdoLevel_running ended, if_neg]
  rintro ⟨high, asks⟩
  obtain await | other := fills
  · exact absurd high (by simp [await])
  · exact other asks

/-- From the second byte of a response transaction on SDO carries the record in the holder (R179). -/
theorem sdoLevel_record {s : State} (takes : s.takes = true) {sdi : List Bool} (asks : asksResponse sdi) :
    s.sdoLevel true sdi = some (((responseBytes s.port.holder).getD (sdi.length / 8 - 1) 0xFF).getMsbD
      (sdi.length % 8)) := by
  classical
  obtain ⟨ended, high⟩ := s.takes_iff.1 takes
  have begun : 8 ≤ sdi.length := asks.1
  have place : (sdi.length - 8) / 8 = sdi.length / 8 - 1 ∧ (sdi.length - 8) % 8 = sdi.length % 8 := by omega
  rw [sdoLevel_running ended, if_pos ⟨high, asks⟩, flatMap_byteBits_getD, place.1, place.2]

end State

/-! ## Which row the bits of a transaction bring (R178, R179, R181) -/

/-- A number is 0 when none of its bits is set. -/
theorem numberOf_eq_zero {bits : List Bool} (zero : numberOf bits = 0) : bits = List.replicate bits.length false := by
  induction bits with
  | nil => rfl
  | cons bit bits ih =>
    rw [numberOf_cons, Nat.add_eq_zero_iff] at zero
    obtain ⟨high, low⟩ := zero
    have clear : bit = false := by simpa using high
    rw [List.length_cons, List.replicate_succ, clear, ← ih low]

/-- The first byte is RESPONSE's exactly when its bits are. -/
theorem byteOf_eq_zero_iff {bits : List Bool} (eight : bits.length = 8) :
    byteOf bits = 0x00 ↔ bits = List.replicate 8 false := by
  refine ⟨fun zero => ?_, fun clear => by rw [clear]; rfl⟩
  have small : numberOf bits < 2 ^ 8 := eight ▸ numberOf_lt bits
  have value : (byteOf bits).toNat = numberOf bits := (BitVec.toNat_ofNat _ _).trans (Nat.mod_eq_of_lt small)
  rw [zero] at value
  exact eight ▸ numberOf_eq_zero value.symm

/-- A code names a command or none, and its row is never a RESPONSE (10.5). -/
theorem commandOf_isTransaction (pins : Pins) (code : Byte) (ps : List Byte) :
    isTransaction (commandOf pins code ps) = true ∧ ∀ count, commandOf pins code ps ≠ .response count := by
  unfold commandOf
  simp only []
  split
  case h_13 => split <;> exact ⟨rfl, nofun⟩
  all_goals exact ⟨rfl, nofun⟩

theorem decodeTransaction_other {code : Byte} (notResponse : code ≠ 0x00) (pins : Pins) (params : List Byte) :
    isTransaction (decodeTransaction pins (code :: params)) = true ∧
      ∀ count, decodeTransaction pins (code :: params) ≠ .response count := by
  rw [decodeTransaction_cons notResponse]
  split
  · exact ⟨rfl, nofun⟩
  · exact commandOf_isTransaction pins code params

theorem wholeBytes_of_begun {sdi : List Bool} (begun : 8 ≤ sdi.length) :
    wholeBytes sdi = byteOf (sdi.take 8) :: wholeBytes (sdi.drop 8) := by
  conv_lhs => rw [← List.take_append_drop 8 sdi]
  exact wholeBytes_append (List.length_take_of_le begun) _

/-- The bits of a response transaction bring RESPONSE, with the bytes begun after its code (R179). -/
theorem decodeSpi_asks {sdi : List Bool} (asks : asksResponse sdi) (pins : Pins) :
    decodeSpi pins sdi = .response ((sdi.length - 1) / 8) := by
  obtain ⟨begun, zeros⟩ := asks
  refine decodeSpi_response (count := (wholeBytes (sdi.drop 8)).length) ?_
  rw [wholeBytes_of_begun begun, (byteOf_eq_zero_iff (List.length_take_of_le begun)).2 zeros]
  rfl

/-- All other bits bring a transaction that is no RESPONSE (R178, R181). -/
theorem decodeSpi_other {sdi : List Bool} (asks : ¬ asksResponse sdi) (pins : Pins) :
    isTransaction (decodeSpi pins sdi) = true ∧ ∀ count, decodeSpi pins sdi ≠ .response count := by
  have other : isTransaction (decodeTransaction pins (wholeBytes sdi)) = true ∧
      ∀ count, decodeTransaction pins (wholeBytes sdi) ≠ .response count := by
    by_cases begun : 8 ≤ sdi.length
    · rw [wholeBytes_of_begun begun]
      refine decodeTransaction_other (fun zero => asks ⟨begun, ?_⟩) pins _
      exact (byteOf_eq_zero_iff (List.length_take_of_le begun)).1 zero
    · rw [wholeBytes_short (Nat.lt_of_not_le begun)]
      exact ⟨rfl, nofun⟩
  rw [decodeSpi_eq rfl other.2]
  exact other

/-! ## SDO in transactions that have ended (R178, R179) -/

theorem exec_response {s : State} (takes : s.takes = true) (count : Nat) : exec (.response count) s = .next
    { s with port.sdo := 0xFF :: (responseBytes s.port.holder ++ List.replicate count 0xFF).take count } :=
  congrArg Host.Outcome.next (State.transaction_takes takes _)

theorem exec_transactionDiscarded {s : State} (takes : s.takes = true) (count : Nat) :
    exec (.transactionDiscarded count) s = .next { s with port.sdo := List.replicate count 0xFF } :=
  congrArg Host.Outcome.next (State.transaction_takes takes _)

/-- A transaction that is ignored, or is no RESPONSE, has carried fill alone (R178; log 23). -/
theorem exec_sdo_fill {c : Instr} {s t : State} (ended : s.port.starting = none) (transacts : isTransaction c = true)
    (fills : s.port.awaitCsHigh = true ∨ ∀ count, c ≠ .response count) (run : exec c s = .next t) (i : Nat) :
    t.port.sdo.getD i 0xFF = 0xFF := by
  have filled : ∀ count, (List.replicate count (0xFF : Byte)).getD i 0xFF = 0xFF := fun count => by
    rw [List.getD_eq_getElem?_getD, List.getElem?_replicate]
    split_ifs <;> rfl
  by_cases await : s.port.awaitCsHigh = true
  · obtain ⟨take, row⟩ := exec_transaction transacts
    rw [row, State.transaction_ignored ended await] at run
    cases run
    rfl
  · have takes : s.takes = true := s.takes_iff.2 ⟨ended, by simpa using await⟩
    obtain ⟨code, act, work⟩ | ⟨pins, rfl⟩ | ⟨count, rfl⟩ | ⟨count, rfl⟩ := isTransaction_cases transacts
    · rw [exec_of_commandWork work, State.command_takes takes] at run
      cases run
      exact filled _
    · change Host.Outcome.next (s.transaction _) = _ at run
      rw [State.transaction_takes takes] at run
      cases run
      exact filled _
    · exact absurd rfl (fills.resolve_left await count)
    · rw [exec_transactionDiscarded takes] at run
      cases run
      exact filled _

/-- The record of a response transaction at a clock from its second byte on. -/
theorem getD_record (record : List Byte) {i count : Nat} (begun : 8 ≤ i) (inside : i / 8 ≤ count) :
    ((0xFF : Byte) :: (record ++ List.replicate count 0xFF).take count).getD (i / 8) 0xFF
      = record.getD (i / 8 - 1) 0xFF := by
  obtain ⟨k, place⟩ := Nat.exists_eq_add_of_le (show 1 ≤ i / 8 by omega)
  rw [place, Nat.add_comm, List.getD_cons_succ, Nat.add_sub_cancel, List.getD_eq_getElem?_getD,
    List.getElem?_take_of_lt (by omega), List.getD_eq_getElem?_getD]
  by_cases held : k < record.length
  · rw [List.getElem?_append_left held]
  · have beyond := Nat.le_of_not_lt held
    rw [List.getElem?_append_right beyond, List.getElem?_replicate_of_lt (by omega), List.getElem?_eq_none beyond]
    rfl

/-- Each bit that SDO carried in a transaction is the one that it drove at that clock (R178, R179, R202). -/
theorem sdoBits_of_decodeSpi {s t : State} {pins : Pins} {sdi : List Bool} (ended : s.port.starting = none)
    (run : exec (decodeSpi pins sdi) s = .next t) {i : Nat} (inside : i < sdi.length) :
    (t.sdoBits sdi.length)[i]? = s.sdoLevel true (sdi.take i) := by
  have sent : (sdi.take i).length = i := List.length_take_of_le inside.le
  have first : 8 ≤ i → (sdi.take i).take 8 = sdi.take 8 := fun begun => by
    rw [List.take_take, Nat.min_eq_left begun]
  rw [t.sdoBits_getElem? inside]
  by_cases fills : s.port.awaitCsHigh = true ∨ ¬ asksResponse sdi
  · have transacts : isTransaction (decodeSpi pins sdi) = true := by
      by_cases asks : asksResponse sdi
      · rw [decodeSpi_asks asks]
        rfl
      · exact (decodeSpi_other asks pins).1
    have early : s.port.awaitCsHigh = true ∨ ¬ asksResponse (sdi.take i) := fills.imp_right fun other asked => by
      have begun : 8 ≤ i := sent ▸ asked.1
      exact other ⟨begun.trans inside.le, (first begun).symm.trans asked.2⟩
    rw [exec_sdo_fill ended transacts (fills.imp_right fun asks => (decodeSpi_other asks pins).2) run,
      State.sdoLevel_fill ended early, fillByte_getMsbD]
  · rw [not_or, Bool.not_eq_true, not_not] at fills
    obtain ⟨high, asks⟩ := fills
    have takes : s.takes = true := s.takes_iff.2 ⟨ended, high⟩
    rw [decodeSpi_asks asks, exec_response takes] at run
    cases run
    by_cases begun : 8 ≤ i
    · rw [getD_record _ begun (by omega), State.sdoLevel_record takes ⟨by omega, (first begun).trans asks.2⟩, sent]
    · have early : ¬ asksResponse (sdi.take i) := fun asked => begun (sent ▸ asked.1)
      rw [State.sdoLevel_fill ended (.inr early), Nat.div_eq_of_lt (Nat.lt_of_not_le begun)]
      exact congrArg some (fillByte_getMsbD i)

/-- Settles O4: each row by its answer, the records by their layout, and SDO bit by bit against what State holds. -/
theorem transactionsThatActOnNothing : Obligations.TransactionsThatActOnNothing := by
  refine ⟨fun s count takes => exec_response takes count, fun s count takes => exec_transactionDiscarded takes count,
    fun s code takes unlisted => ?_, fun r => ?_,
    fun s clocks => ⟨s.sdoBits_length clocks, fun i => s.sdoBits_getElem?⟩, responseBytes_eq, by decide, fun s sdi takes => ⟨fun other => ?_, fun begun zeros => ?_⟩,
    fun s t pins sdi ended run i => sdoBits_of_decodeSpi ended run⟩
  · exact exec_answers takes rfl (paramBytes_unlisted unlisted) rfl rfl
  · rw [responseBytes_length, bodyLayout_width]
    cases r.body <;> rfl
  · have notAsks : ¬ asksResponse sdi := fun asks =>
      other.elim (fun few => by have := asks.1; omega) fun h => h asks.2
    exact State.sdoLevel_fill (s.takes_iff.1 takes).1 (.inr notAsks)
  · exact State.sdoLevel_record takes ⟨begun, zeros⟩

end Sys2Proof.Machine
end

section
/-!
What a step does with the queue: it takes the command at the front, and idles when none waits (log 2).
-/
namespace Sys2Proof.Machine

/-- A step takes the front command off the queue before it runs it. -/
theorem step_front {s : State} {c : Instr} {rest : List Instr} (waiting : s.pending = c :: rest) :
    step s = exec c { s with pending := rest } := by
  rw [step, waiting]

/-- With no command waiting the block idles (log 2). -/
theorem step_idle {s : State} (empty : s.pending = []) : step s = .next s := by
  rw [step, empty]

/-- Settles O1: the queue is either empty or has a front command, and `step` is given for each of the two. -/
theorem stepRunsTheFrontCommand : Obligations.StepRunsTheFrontCommand :=
  ⟨fun _ _ _ => step_front rfl, fun _ => step_idle⟩

end Sys2Proof.Machine
end
